-- ==== Sys2Proof/Word.lean ====
section
/-!
DEFINITION. The words of the block: the byte every bus transaction moves (rule R78), the
nibble of the collision accumulator (rule R43), the 32-bit transaction word (rule R100) and the
32-bit word of expanded sprite data (rule R129).
-/

namespace Sys2Proof

/-- One byte: every register and memory byte of the block is an unsigned 8-bit value (R17). -/
abbrev Byte := BitVec 8

/-- Four bits: a PROM nibble (R302), a priority nibble or the collision accumulator (R43). -/
abbrev Nibble := BitVec 4

/-- A transaction word `TW` of 32 bits (R100). -/
abbrev TW := BitVec 32

/-- A 32-bit word of expanded sprite-bitmap data (R129). -/
abbrev PixelWord := BitVec 32

end Sys2Proof
end

