-- ==== Sys2Proof/Syntax.lean ====
section
/-!
DEFINITION. The operations of the block, one constructor per row of the opcode table
(`30_encoding.md` rules R100 to R112, R130).  The operands are the row's fields.
-/

namespace Sys2Proof

/-- The operations of the block.  A field the encoding ignores (rule R131) is no operand, with one
exception: `PPI.WR.BSR` keeps its ignored bits 6:4, because the whole byte is stored in `control`
(rule R25). -/
inductive Instr where
  /-- `SEQ.RESET` (R321) -/
  | seqReset
  /-- `SEQ.FRAME`, `fullRefresh` = `data[0]` (R322) -/
  | seqFrame (fullRefresh : BitVec 1)
  /-- `SEQ.COLLONLY` (R323) -/
  | seqCollOnly
  /-- `SEQ.SCROLLCOMP` (R325) -/
  | seqScrollComp
  /-- `PPI.INIT` (R143) -/
  | ppiInit (chipCount : Byte)
  /-- `TILE.RENDER` (R213) -/
  | tileRender (L : BitVec 3)
  /-- `SPR.REFRESH` (R233) -/
  | sprRefresh (S : BitVec 3)
  /-- `SPR.COMPOSITE` with S = 0 (R236) -/
  | sprComposite0
  /-- `SPR.COMPOSITE` with S = 1 (R244) -/
  | sprComposite1
  /-- `ROAD.PARAMS` (R272) -/
  | roadParams
  /-- `ROAD.LINE`, `minimal` = `inst[0]`, y = `data` (R261) -/
  | roadLine (minimal : BitVec 1) (y : Byte)
  /-- `PAL.BUILD` (R301) -/
  | palBuild
  /-- `PAL.CTBUILD` (R306) -/
  | palCtBuild (g : BitVec 3)
  /-- `NV.EXPORT` (R87) -/
  | nvExport
  /-- `NV.IMPORT` (R87) -/
  | nvImport
  /-- `PPI.RD.A` (R144) -/
  | ppiRdA (c : BitVec 3)
  /-- `PPI.RD.B` (R145) -/
  | ppiRdB (c : BitVec 3)
  /-- `PPI.RD.C` (R146) -/
  | ppiRdC (c : BitVec 3)
  /-- `PPI.RD.CTRL` (R147) -/
  | ppiRdCtrl (c : BitVec 3)
  /-- `PPI.WR.A` (R148) -/
  | ppiWrA (c : BitVec 3) (d : Byte)
  /-- `PPI.WR.B` (R149) -/
  | ppiWrB (c : BitVec 3) (d : Byte)
  /-- `PPI.WR.C` (R150) -/
  | ppiWrC (c : BitVec 3) (d : Byte)
  /-- `PPI.WR.MODE`, control byte `1 ga ga da dcu gb db dcl` (R116, R151) -/
  | ppiWrMode (c : BitVec 3) (ga : BitVec 2) (da dcu gb db dcl : BitVec 1)
  /-- `PPI.WR.BSR`, control byte `0 x x x n n n s` (R117, R152) -/
  | ppiWrBsr (c : BitVec 3) (x : BitVec 3) (n : BitVec 3) (s : BitVec 1)
  /-- `PROT.RD13` (R174) -/
  | protRd13
  /-- `PROT.WR13` (R173) -/
  | protWr13 (d : Byte)
  /-- `PROT.RD`, o ≠ 13 (R176) -/
  | protRd (o : BitVec 4)
  /-- `PROT.WR`, o ≠ 13 (R175) -/
  | protWr (o : BitVec 4) (d : Byte)
  /-- `SND.LATCH.RD` (R193) -/
  | sndLatchRd (i : BitVec 1)
  /-- `SND.LATCH.WR` (R192) -/
  | sndLatchWr (i : BitVec 1) (d : Byte)
  /-- `SND.SPEECH.RESET.WR` (R194) -/
  | sndSpeechResetWr (level : BitVec 1)
  /-- `SND.SPEECH.START.WR` (R195) -/
  | sndSpeechStartWr (level : BitVec 1)
  /-- `SND.SPEECH.VCU.WR` (R196) -/
  | sndSpeechVcuWr (level : BitVec 1)
  /-- `SND.SPEECH.DATA.WR` (R197) -/
  | sndSpeechDataWr (d : Byte)
  /-- `SND.CPURESET.WR` (R199) -/
  | sndCpuResetWr (d : Byte)
  /-- `VRAM.RD` (R217) -/
  | vramRd (L : BitVec 3) (n : BitVec 16)
  /-- `VRAM.WR` (R211) -/
  | vramWr (L : BitVec 3) (n : BitVec 16) (d : Byte)
  /-- `SPR.RAM.RD` (R232) -/
  | sprRamRd (S : BitVec 1) (n : BitVec 15)
  /-- `SPR.RAM.WR` (R231) -/
  | sprRamWr (S : BitVec 1) (n : BitVec 15) (d : Byte)
  /-- `SPR.CTRL.RD` (R245) -/
  | sprCtrlRd (S : BitVec 1) (r : BitVec 15)
  /-- `SPR.CTRL.WR` (R243) -/
  | sprCtrlWr (S : BitVec 1) (r : BitVec 15) (d : Byte)
  /-- `ROAD.COLL.RD` (R279) -/
  | roadCollRd
  /-- `ROAD.COLL.CLR` (R280) -/
  | roadCollClr
  /-- `ROAD.REG.RD`, k ≠ 6 (R278) -/
  | roadRegRd (k : BitVec 3)
  /-- `ROAD.REG.WR`, k ≠ 6 (R277) -/
  | roadRegWr (k : BitVec 3) (d : Byte)
  /-- `ROAD.SPR.RD` (R282) -/
  | roadSprRd (n : BitVec 12)
  /-- `ROAD.SPR.WR` (R281) -/
  | roadSprWr (n : BitVec 12) (d : Byte)
  /-- `CTL.PALBANK.RD` (R219) -/
  | ctlPalbankRd
  /-- `CTL.PALBANK.WR` (R218) -/
  | ctlPalbankWr (d : Byte)
  /-- `CTL.SCROLL.RD` (R221) -/
  | ctlScrollRd (i : Byte)
  /-- `CTL.SCROLL.WR` (R220) -/
  | ctlScrollWr (i : Byte) (d : Byte)
  /-- `NV.RD` (R87) -/
  | nvRd (n : BitVec 16)
  /-- `NV.WR` (R87) -/
  | nvWr (n : BitVec 16) (d : Byte)
  /-- `INP.RD` (R198) -/
  | inpRd (i : BitVec 16)
  /-- `BUS.OOR`, every word no other row takes (R130) -/
  | busOor (unit : BitVec 4) (w : BitVec 1)
  deriving DecidableEq, Repr

end Sys2Proof
end

