-- ==== Sys2Proof/WellFormed.lean ====
section
/-!
DEFINITION. Which terms of `Instr` some transaction word decodes to.  Three rows stand after more
specific rows of the opcode table (first match wins, R102), so one operand value of each is never
decoded to; every other operand has exactly the width of its field.
-/

namespace Sys2Proof

/-- The operand values the encoding admits. -/
def Instr.wellFormed : Instr → Bool
  | .protRd o => o != 13
  | .protWr o _ => o != 13
  | .roadRegRd k => k != 6
  | .roadRegWr k _ => k != 6
  | .busOor unit _ => unit != 4
  | .seqReset | .seqFrame _ | .seqCollOnly | .seqScrollComp | .ppiInit _ | .tileRender _
  | .sprRefresh _ | .sprComposite0 | .sprComposite1 | .roadParams | .roadLine _ _ | .palBuild
  | .palCtBuild _ | .nvExport | .nvImport | .ppiRdA _ | .ppiRdB _ | .ppiRdC _ | .ppiRdCtrl _
  | .ppiWrA _ _ | .ppiWrB _ _ | .ppiWrC _ _ | .ppiWrMode _ _ _ _ _ _ _ | .ppiWrBsr _ _ _ _
  | .protRd13 | .protWr13 _ | .sndLatchRd _ | .sndLatchWr _ _ | .sndSpeechResetWr _
  | .sndSpeechStartWr _ | .sndSpeechVcuWr _ | .sndSpeechDataWr _ | .sndCpuResetWr _
  | .vramRd _ _ | .vramWr _ _ _ | .sprRamRd _ _ | .sprRamWr _ _ _ | .sprCtrlRd _ _
  | .sprCtrlWr _ _ _ | .roadCollRd | .roadCollClr | .roadSprRd _ | .roadSprWr _ _
  | .ctlPalbankRd | .ctlPalbankWr _ | .ctlScrollRd _ | .ctlScrollWr _ _ | .nvRd _ | .nvWr _ _
  | .inpRd _ => true

end Sys2Proof
end

