-- ==== Sys2Proof/Decode.lean ====
section
/-!
DEFINITION. Decoding and encoding of transaction words (`30_encoding.md` rules R100 to R112, R130).
Decoding is total: a word no other row takes is `BUS.OOR` (R102).  It goes by the fields of R100, unit
by unit; `opcodeTable` is the opcode table itself, for the statement that the two agree.
-/

namespace Sys2Proof

/-! ### Fields (R100) -/

/-- `unit`, bits 31:28. -/
def unitOf (tw : TW) : BitVec 4 := tw.extractLsb' 28 4
/-- `w`, bit 27. -/
def wOf (tw : TW) : BitVec 1 := tw.extractLsb' 27 1
/-- `inst`, bits 26:24. -/
def instOf (tw : TW) : BitVec 3 := tw.extractLsb' 24 3
/-- `sel`, bits 23:8. -/
def selOf (tw : TW) : BitVec 16 := tw.extractLsb' 8 16
/-- `data`, bits 7:0. -/
def dataOf (tw : TW) : Byte := tw.extractLsb' 0 8

/-- A transaction word from its fields (R100). -/
def packTW (unit : BitVec 4) (w : BitVec 1) (inst : BitVec 3) (sel : BitVec 16) (data : Byte) : TW :=
  unit ++ w ++ inst ++ sel ++ data

/-! ### Decoding, unit by unit -/

/-- Unit 0, SEQ (R103). -/
def decodeSeq (w : BitVec 1) (inst : BitVec 3) (sel : BitVec 16) (data : Byte) : Instr :=
  if w = 0 then .busOor 0 w
  else if sel = 0x0000 ∧ inst = 0 then .seqReset
  else if sel = 0x0001 ∧ inst = 0 then .seqFrame (data.extractLsb' 0 1)
  else if sel = 0x0002 ∧ inst = 0 then .seqCollOnly
  else if sel = 0x0003 ∧ inst = 0 then .seqScrollComp
  else if sel = 0x0100 ∧ inst = 0 then .ppiInit data
  else if sel = 0x0400 then .tileRender inst
  else if sel = 0x0500 then .sprRefresh inst
  else if sel = 0x0501 ∧ inst = 0 then .sprComposite0
  else if sel = 0x0501 ∧ inst = 1 then .sprComposite1
  else if sel = 0x0600 ∧ inst = 0 then .roadParams
  else if sel = 0x0601 ∧ inst.extractLsb' 1 2 = 0 then .roadLine (inst.extractLsb' 0 1) data
  else if sel = 0x0700 ∧ inst = 0 then .palBuild
  else if sel = 0x0701 then .palCtBuild inst
  else if sel = 0x0800 ∧ inst = 0 then .nvExport
  else if sel = 0x0801 ∧ inst = 0 then .nvImport
  else .busOor 0 w

/-- Unit 1, PPI (R104). -/
def decodePpi (w : BitVec 1) (inst : BitVec 3) (sel : BitVec 16) (data : Byte) : Instr :=
  if sel = 0 then (if w = 0 then .ppiRdA inst else .ppiWrA inst data)
  else if sel = 1 then (if w = 0 then .ppiRdB inst else .ppiWrB inst data)
  else if sel = 2 then (if w = 0 then .ppiRdC inst else .ppiWrC inst data)
  else if sel = 3 then
    if w = 0 then .ppiRdCtrl inst
    else if data.extractLsb' 7 1 = 1 then
      .ppiWrMode inst (data.extractLsb' 5 2) (data.extractLsb' 4 1) (data.extractLsb' 3 1)
        (data.extractLsb' 2 1) (data.extractLsb' 1 1) (data.extractLsb' 0 1)
    else .ppiWrBsr inst (data.extractLsb' 4 3) (data.extractLsb' 1 3) (data.extractLsb' 0 1)
  else .busOor 1 w

/-- Unit 2, PROT (R105). -/
def decodeProt (w : BitVec 1) (inst : BitVec 3) (sel : BitVec 16) (data : Byte) : Instr :=
  if inst = 0 ∧ sel = 13 then (if w = 0 then .protRd13 else .protWr13 data)
  else if inst = 0 ∧ sel.extractLsb' 4 12 = 0 then
    if w = 0 then .protRd (sel.extractLsb' 0 4) else .protWr (sel.extractLsb' 0 4) data
  else .busOor 2 w

/-- Unit 3, SND (R106). -/
def decodeSnd (w : BitVec 1) (inst : BitVec 3) (sel : BitVec 16) (data : Byte) : Instr :=
  if sel = 0 ∧ inst.extractLsb' 1 2 = 0 then
    if w = 0 then .sndLatchRd (inst.extractLsb' 0 1) else .sndLatchWr (inst.extractLsb' 0 1) data
  else if w = 0 then .busOor 3 w
  else if sel = 1 ∧ inst = 0 then .sndSpeechResetWr (data.extractLsb' 0 1)
  else if sel = 2 ∧ inst = 0 then .sndSpeechStartWr (data.extractLsb' 0 1)
  else if sel = 3 ∧ inst = 0 then .sndSpeechVcuWr (data.extractLsb' 0 1)
  else if sel = 4 ∧ inst = 0 then .sndSpeechDataWr data
  else if sel = 5 ∧ inst = 0 then .sndCpuResetWr data
  else .busOor 3 w

/-- Unit 4, VRAM (R107). -/
def decodeVram (w : BitVec 1) (inst : BitVec 3) (sel : BitVec 16) (data : Byte) : Instr :=
  if w = 0 then .vramRd inst sel else .vramWr inst sel data

/-- Unit 5, SPR (R108). -/
def decodeSpr (w : BitVec 1) (inst : BitVec 3) (sel : BitVec 16) (data : Byte) : Instr :=
  if inst.extractLsb' 1 2 = 0 then
    if sel.extractLsb' 15 1 = 0 then
      if w = 0 then .sprRamRd (inst.extractLsb' 0 1) (sel.extractLsb' 0 15)
      else .sprRamWr (inst.extractLsb' 0 1) (sel.extractLsb' 0 15) data
    else if w = 0 then .sprCtrlRd (inst.extractLsb' 0 1) (sel.extractLsb' 0 15)
    else .sprCtrlWr (inst.extractLsb' 0 1) (sel.extractLsb' 0 15) data
  else .busOor 5 w

/-- Unit 6, ROAD (R109). -/
def decodeRoad (w : BitVec 1) (inst : BitVec 3) (sel : BitVec 16) (data : Byte) : Instr :=
  if inst = 0 ∧ sel = 6 then (if w = 0 then .roadCollRd else .roadCollClr)
  else if inst = 0 ∧ sel.extractLsb' 3 13 = 0 then
    if w = 0 then .roadRegRd (sel.extractLsb' 0 3) else .roadRegWr (sel.extractLsb' 0 3) data
  else if inst = 0 ∧ sel.extractLsb' 12 4 = 1 then
    if w = 0 then .roadSprRd (sel.extractLsb' 0 12) else .roadSprWr (sel.extractLsb' 0 12) data
  else .busOor 6 w

/-- Unit 7, CTL (R110). -/
def decodeCtl (w : BitVec 1) (inst : BitVec 3) (sel : BitVec 16) (data : Byte) : Instr :=
  if inst = 0 ∧ sel = 0 then (if w = 0 then .ctlPalbankRd else .ctlPalbankWr data)
  else if inst = 0 ∧ sel.extractLsb' 8 8 = 1 then
    if w = 0 then .ctlScrollRd (sel.extractLsb' 0 8) else .ctlScrollWr (sel.extractLsb' 0 8) data
  else .busOor 7 w

/-- Unit 8, NV (R111). -/
def decodeNv (w : BitVec 1) (inst : BitVec 3) (sel : BitVec 16) (data : Byte) : Instr :=
  if inst = 0 then (if w = 0 then .nvRd sel else .nvWr sel data) else .busOor 8 w

/-- Unit 9, INP (R112). -/
def decodeInp (w : BitVec 1) (inst : BitVec 3) (sel : BitVec 16) : Instr :=
  if inst = 0 ∧ w = 0 then .inpRd sel else .busOor 9 w

/-- The operation of a word with the given fields (R101). -/
def decodeFields (unit : BitVec 4) (w : BitVec 1) (inst : BitVec 3) (sel : BitVec 16) (data : Byte) :
    Instr :=
  if unit = 0 then decodeSeq w inst sel data
  else if unit = 1 then decodePpi w inst sel data
  else if unit = 2 then decodeProt w inst sel data
  else if unit = 3 then decodeSnd w inst sel data
  else if unit = 4 then decodeVram w inst sel data
  else if unit = 5 then decodeSpr w inst sel data
  else if unit = 6 then decodeRoad w inst sel data
  else if unit = 7 then decodeCtl w inst sel data
  else if unit = 8 then decodeNv w inst sel data
  else if unit = 9 then decodeInp w inst sel
  else .busOor unit w

/-- The operation of a transaction word (R102): total, refusing nothing. -/
def decode (tw : TW) : Instr :=
  decodeFields (unitOf tw) (wOf tw) (instOf tw) (selOf tw) (dataOf tw)

/-- What the decoder reads from an instruction of `nbits` bits `w`: one 32-bit word, the bits above
`nbits` zero.  No transaction word is longer. -/
def decodeTableWord (nbits w : Nat) : Option Instr :=
  if nbits ≤ 32 then some (decode (BitVec.ofNat 32 (w % 2 ^ nbits))) else none

/-! ### Encoding -/

/-- A command word: unit 0, `w` = 1. -/
def cmdWord (inst : BitVec 3) (sel : BitVec 16) (data : Byte) : TW := packTW 0 1 inst sel data

/-- The word of a well-formed operation, every ignored bit 0.  For BUS.OOR, whose operands are the
unit and the direction alone, it is a word of that unit with a select and instance no row takes
(DESIGN CHOICE, log 21). -/
def encode : Instr → TW
  | .seqReset => cmdWord 0 0x0000 0
  | .seqFrame full => cmdWord 0 0x0001 (0#7 ++ full)
  | .seqCollOnly => cmdWord 0 0x0002 0
  | .seqScrollComp => cmdWord 0 0x0003 0
  | .ppiInit n => cmdWord 0 0x0100 n
  | .tileRender L => cmdWord L 0x0400 0
  | .sprRefresh S => cmdWord S 0x0500 0
  | .sprComposite0 => cmdWord 0 0x0501 0
  | .sprComposite1 => cmdWord 1 0x0501 0
  | .roadParams => cmdWord 0 0x0600 0
  | .roadLine minimal y => cmdWord (0#2 ++ minimal) 0x0601 y
  | .palBuild => cmdWord 0 0x0700 0
  | .palCtBuild g => cmdWord g 0x0701 0
  | .nvExport => cmdWord 0 0x0800 0
  | .nvImport => cmdWord 0 0x0801 0
  | .ppiRdA c => packTW 1 0 c 0 0
  | .ppiRdB c => packTW 1 0 c 1 0
  | .ppiRdC c => packTW 1 0 c 2 0
  | .ppiRdCtrl c => packTW 1 0 c 3 0
  | .ppiWrA c d => packTW 1 1 c 0 d
  | .ppiWrB c d => packTW 1 1 c 1 d
  | .ppiWrC c d => packTW 1 1 c 2 d
  | .ppiWrMode c ga da dcu gb db dcl =>
    packTW 1 1 c 3 (1#1 ++ ga ++ da ++ dcu ++ gb ++ db ++ dcl)
  | .ppiWrBsr c x n s => packTW 1 1 c 3 (0#1 ++ x ++ n ++ s)
  | .protRd13 => packTW 2 0 0 13 0
  | .protWr13 d => packTW 2 1 0 13 d
  | .protRd o => packTW 2 0 0 (0#12 ++ o) 0
  | .protWr o d => packTW 2 1 0 (0#12 ++ o) d
  | .sndLatchRd i => packTW 3 0 (0#2 ++ i) 0 0
  | .sndLatchWr i d => packTW 3 1 (0#2 ++ i) 0 d
  | .sndSpeechResetWr level => packTW 3 1 0 1 (0#7 ++ level)
  | .sndSpeechStartWr level => packTW 3 1 0 2 (0#7 ++ level)
  | .sndSpeechVcuWr level => packTW 3 1 0 3 (0#7 ++ level)
  | .sndSpeechDataWr d => packTW 3 1 0 4 d
  | .sndCpuResetWr d => packTW 3 1 0 5 d
  | .vramRd L n => packTW 4 0 L n 0
  | .vramWr L n d => packTW 4 1 L n d
  | .sprRamRd S n => packTW 5 0 (0#2 ++ S) (0#1 ++ n) 0
  | .sprRamWr S n d => packTW 5 1 (0#2 ++ S) (0#1 ++ n) d
  | .sprCtrlRd S r => packTW 5 0 (0#2 ++ S) (1#1 ++ r) 0
  | .sprCtrlWr S r d => packTW 5 1 (0#2 ++ S) (1#1 ++ r) d
  | .roadCollRd => packTW 6 0 0 6 0
  | .roadCollClr => packTW 6 1 0 6 0
  | .roadRegRd k => packTW 6 0 0 (0#13 ++ k) 0
  | .roadRegWr k d => packTW 6 1 0 (0#13 ++ k) d
  | .roadSprRd n => packTW 6 0 0 (1#4 ++ n) 0
  | .roadSprWr n d => packTW 6 1 0 (1#4 ++ n) d
  | .ctlPalbankRd => packTW 7 0 0 0 0
  | .ctlPalbankWr d => packTW 7 1 0 0 d
  | .ctlScrollRd i => packTW 7 0 0 (1#8 ++ i) 0
  | .ctlScrollWr i d => packTW 7 1 0 (1#8 ++ i) d
  | .nvRd n => packTW 8 0 0 n 0
  | .nvWr n d => packTW 8 1 0 n d
  | .inpRd i => packTW 9 0 0 i 0
  | .busOor unit w => packTW unit w 7 0xFFFF 0

/-! ### The opcode table -/

/-- A row of the opcode table: its mnemonic, `match` and `mask` (R100). -/
structure OpcodeRow where
  mnemonic : String
  value : TW
  mask : TW
  deriving DecidableEq, Repr

/-- A word belongs to the row (R100). -/
def rowTakes (r : OpcodeRow) (tw : TW) : Bool := tw &&& r.mask = r.value

/-- The rows of units 0 and 1. -/
def opcodeRowsSeqPpi : List OpcodeRow :=
  [⟨"SEQ.RESET", 0x08000000, 0xFFFFFF00⟩,
   ⟨"SEQ.FRAME", 0x08000100, 0xFFFFFF00⟩,
   ⟨"SEQ.COLLONLY", 0x08000200, 0xFFFFFF00⟩,
   ⟨"SEQ.SCROLLCOMP", 0x08000300, 0xFFFFFF00⟩,
   ⟨"PPI.INIT", 0x08010000, 0xFFFFFF00⟩,
   ⟨"TILE.RENDER", 0x08040000, 0xF8FFFF00⟩,
   ⟨"SPR.REFRESH", 0x08050000, 0xF8FFFF00⟩,
   ⟨"SPR.COMPOSITE.0", 0x08050100, 0xFFFFFF00⟩,
   ⟨"SPR.COMPOSITE.1", 0x09050100, 0xFFFFFF00⟩,
   ⟨"ROAD.PARAMS", 0x08060000, 0xFFFFFF00⟩,
   ⟨"ROAD.LINE", 0x08060100, 0xFEFFFF00⟩,
   ⟨"PAL.BUILD", 0x08070000, 0xFFFFFF00⟩,
   ⟨"PAL.CTBUILD", 0x08070100, 0xF8FFFF00⟩,
   ⟨"NV.EXPORT", 0x08080000, 0xFFFFFF00⟩,
   ⟨"NV.IMPORT", 0x08080100, 0xFFFFFF00⟩,
   ⟨"PPI.RD.A", 0x10000000, 0xF8FFFF00⟩,
   ⟨"PPI.RD.B", 0x10000100, 0xF8FFFF00⟩,
   ⟨"PPI.RD.C", 0x10000200, 0xF8FFFF00⟩,
   ⟨"PPI.RD.CTRL", 0x10000300, 0xF8FFFF00⟩,
   ⟨"PPI.WR.A", 0x18000000, 0xF8FFFF00⟩,
   ⟨"PPI.WR.B", 0x18000100, 0xF8FFFF00⟩,
   ⟨"PPI.WR.C", 0x18000200, 0xF8FFFF00⟩,
   ⟨"PPI.WR.MODE", 0x18000380, 0xF8FFFF80⟩,
   ⟨"PPI.WR.BSR", 0x18000300, 0xF8FFFF80⟩]

/-- The rows of the other units, and the default row. -/
def opcodeRowsBus : List OpcodeRow :=
  [⟨"PROT.RD13", 0x20000D00, 0xFFFFFF00⟩,
   ⟨"PROT.WR13", 0x28000D00, 0xFFFFFF00⟩,
   ⟨"PROT.RD", 0x20000000, 0xFFFFF000⟩,
   ⟨"PROT.WR", 0x28000000, 0xFFFFF000⟩,
   ⟨"SND.LATCH.RD", 0x30000000, 0xFEFFFF00⟩,
   ⟨"SND.LATCH.WR", 0x38000000, 0xFEFFFF00⟩,
   ⟨"SND.SPEECH.RESET.WR", 0x38000100, 0xFFFFFF00⟩,
   ⟨"SND.SPEECH.START.WR", 0x38000200, 0xFFFFFF00⟩,
   ⟨"SND.SPEECH.VCU.WR", 0x38000300, 0xFFFFFF00⟩,
   ⟨"SND.SPEECH.DATA.WR", 0x38000400, 0xFFFFFF00⟩,
   ⟨"SND.CPURESET.WR", 0x38000500, 0xFFFFFF00⟩,
   ⟨"VRAM.RD", 0x40000000, 0xF8000000⟩,
   ⟨"VRAM.WR", 0x48000000, 0xF8000000⟩,
   ⟨"SPR.RAM.RD", 0x50000000, 0xFE800000⟩,
   ⟨"SPR.RAM.WR", 0x58000000, 0xFE800000⟩,
   ⟨"SPR.CTRL.RD", 0x50800000, 0xFE800000⟩,
   ⟨"SPR.CTRL.WR", 0x58800000, 0xFE800000⟩,
   ⟨"ROAD.COLL.RD", 0x60000600, 0xFFFFFF00⟩,
   ⟨"ROAD.COLL.CLR", 0x68000600, 0xFFFFFF00⟩,
   ⟨"ROAD.REG.RD", 0x60000000, 0xFFFFF800⟩,
   ⟨"ROAD.REG.WR", 0x68000000, 0xFFFFF800⟩,
   ⟨"ROAD.SPR.RD", 0x60100000, 0xFFF00000⟩,
   ⟨"ROAD.SPR.WR", 0x68100000, 0xFFF00000⟩,
   ⟨"CTL.PALBANK.RD", 0x70000000, 0xFFFFFF00⟩,
   ⟨"CTL.PALBANK.WR", 0x78000000, 0xFFFFFF00⟩,
   ⟨"CTL.SCROLL.RD", 0x70010000, 0xFFFF0000⟩,
   ⟨"CTL.SCROLL.WR", 0x78010000, 0xFFFF0000⟩,
   ⟨"NV.RD", 0x80000000, 0xFF000000⟩,
   ⟨"NV.WR", 0x88000000, 0xFF000000⟩,
   ⟨"INP.RD", 0x90000000, 0xFF000000⟩,
   ⟨"BUS.OOR", 0x00000000, 0x00000000⟩]

/-- The opcode table, in matching order. -/
def opcodeTable : List OpcodeRow := opcodeRowsSeqPpi ++ opcodeRowsBus

/-- The mnemonic of an operation's row. -/
def Instr.mnemonic : Instr → String
  | .seqReset => "SEQ.RESET"
  | .seqFrame _ => "SEQ.FRAME"
  | .seqCollOnly => "SEQ.COLLONLY"
  | .seqScrollComp => "SEQ.SCROLLCOMP"
  | .ppiInit _ => "PPI.INIT"
  | .tileRender _ => "TILE.RENDER"
  | .sprRefresh _ => "SPR.REFRESH"
  | .sprComposite0 => "SPR.COMPOSITE.0"
  | .sprComposite1 => "SPR.COMPOSITE.1"
  | .roadParams => "ROAD.PARAMS"
  | .roadLine _ _ => "ROAD.LINE"
  | .palBuild => "PAL.BUILD"
  | .palCtBuild _ => "PAL.CTBUILD"
  | .nvExport => "NV.EXPORT"
  | .nvImport => "NV.IMPORT"
  | .ppiRdA _ => "PPI.RD.A"
  | .ppiRdB _ => "PPI.RD.B"
  | .ppiRdC _ => "PPI.RD.C"
  | .ppiRdCtrl _ => "PPI.RD.CTRL"
  | .ppiWrA _ _ => "PPI.WR.A"
  | .ppiWrB _ _ => "PPI.WR.B"
  | .ppiWrC _ _ => "PPI.WR.C"
  | .ppiWrMode _ _ _ _ _ _ _ => "PPI.WR.MODE"
  | .ppiWrBsr _ _ _ _ => "PPI.WR.BSR"
  | .protRd13 => "PROT.RD13"
  | .protWr13 _ => "PROT.WR13"
  | .protRd _ => "PROT.RD"
  | .protWr _ _ => "PROT.WR"
  | .sndLatchRd _ => "SND.LATCH.RD"
  | .sndLatchWr _ _ => "SND.LATCH.WR"
  | .sndSpeechResetWr _ => "SND.SPEECH.RESET.WR"
  | .sndSpeechStartWr _ => "SND.SPEECH.START.WR"
  | .sndSpeechVcuWr _ => "SND.SPEECH.VCU.WR"
  | .sndSpeechDataWr _ => "SND.SPEECH.DATA.WR"
  | .sndCpuResetWr _ => "SND.CPURESET.WR"
  | .vramRd _ _ => "VRAM.RD"
  | .vramWr _ _ _ => "VRAM.WR"
  | .sprRamRd _ _ => "SPR.RAM.RD"
  | .sprRamWr _ _ _ => "SPR.RAM.WR"
  | .sprCtrlRd _ _ => "SPR.CTRL.RD"
  | .sprCtrlWr _ _ _ => "SPR.CTRL.WR"
  | .roadCollRd => "ROAD.COLL.RD"
  | .roadCollClr => "ROAD.COLL.CLR"
  | .roadRegRd _ => "ROAD.REG.RD"
  | .roadRegWr _ _ => "ROAD.REG.WR"
  | .roadSprRd _ => "ROAD.SPR.RD"
  | .roadSprWr _ _ => "ROAD.SPR.WR"
  | .ctlPalbankRd => "CTL.PALBANK.RD"
  | .ctlPalbankWr _ => "CTL.PALBANK.WR"
  | .ctlScrollRd _ => "CTL.SCROLL.RD"
  | .ctlScrollWr _ _ => "CTL.SCROLL.WR"
  | .nvRd _ => "NV.RD"
  | .nvWr _ _ => "NV.WR"
  | .inpRd _ => "INP.RD"
  | .busOor _ _ => "BUS.OOR"

end Sys2Proof
end

