-- ==== Sys2Proof/Config.lean ====
section
/-!
DEFINITION. What a board fixes for the life of a model instance (`00_scope.md` rules R8 to R12), as
plain data, and the free values: constants without a body, of which nothing can be proved but that
they are what they are.

DESIGN CHOICE (log 1): the configuration is a field of `State` that no step writes, so every
statement about every state holds of every board.  DESIGN CHOICE (log 2): an OPEN function is an
`OpenFn`: finitely many given values, optionally one value for all other arguments, and where the
board data give none a free value.
-/

namespace Sys2Proof

/-! ### Names -/

/-- The two screens of a two-screen board (R19, R48). -/
inductive Monitor where
  | top
  | bottom
  deriving DecidableEq, Repr

/-- The three data ports of a PPI chip (R115). -/
inductive Port where
  | a
  | b
  | c
  deriving DecidableEq, Repr

/-- The colour channels of an RGB entry (R129). -/
inductive Channel where
  | r
  | g
  | b
  deriving DecidableEq, Repr

/-- The bus masters (R7). -/
inductive Agent where
  | mainCpu
  | soundCpu
  deriving DecidableEq, Repr

/-- An address of a CPU: of the memory-mapped surface (R71), whose width the spec does not give, or one
of the 256 ports of the I/O surface (R72). -/
inductive BusAddress where
  | memory (a : Nat)
  | ioPort (port : Byte)
  deriving DecidableEq, Repr

/-- A nibble of a selector register: bits 3:0 or bits 7:4 (R265). -/
inductive NibbleHalf where
  | lo
  | hi
  deriving DecidableEq, Repr

/-- The pieces of state whose value at reset the spec leaves to a draw (R53). -/
inductive Site where
  | registers
  | soundlatch
  | soundlatch2
  | speechReset
  | speechStart
  | speechVcu
  | sndCpuReset
  | vram (L : Nat)
  | tbitmap (L : Nat)
  | sprram (S : Nat)
  | sbitmap (S : Nat)
  | roadspr
  | scroll
  | bsctrl
  | bs2ctrl
  | palbank
  | opa
  | opb
  | roadctl
  | ipa
  | ipb
  | ipc
  | collision
  | sprparam
  | sprxmap
  | frame (m : Monitor)
  | nvram
  deriving DecidableEq, Repr

/-- A colour: three 8-bit channels (R129). -/
structure RGB where
  r : Byte
  g : Byte
  b : Byte
  deriving DecidableEq, Repr

/-- The sprite-parameter record of a slot: seven integers (R128), none of them signed (R17, R237).
DESIGN CHOICE (log 26): the spec gives a field no width; each is unbounded, in a decoded record and in a
drawn one. -/
structure SpriteParam where
  miny : Nat
  maxy : Nat
  xscale : Nat
  yscale : Nat
  xoffset : Nat
  rowStride : Nat
  offset : Nat
  deriving DecidableEq, Repr, Inhabited

/-- A read-only table of `size` entries (R46): `fill` everywhere but at the listed indices. -/
structure Rom (α : Type) where
  size : Nat
  fill : α
  cells : List (Nat × α)
  deriving DecidableEq, Repr

/-- An OPEN function of R12 as plain data: its values at `points`, `rest` (when given) everywhere
else, and otherwise a free value (log 2). -/
structure OpenFn (α β : Type) where
  points : List (α × β)
  rest : Option β
  deriving DecidableEq, Repr

/-! ### Units -/

/-- The fields of one tile layer L in R12.  DESIGN CHOICE (log 31): the spec gives `TILE_ORG_X[L]` and
`TILE_ORG_Y[L]` no sign; a board may place a bitmap left of or above the frame's origin. -/
structure TileCfg where
  /-- `VRAM_SIZE[L]`, bytes -/
  vramSize : Nat
  /-- `TILE_COLS[L]` -/
  cols : Nat
  /-- `TILE_ROWS[L]` -/
  rows : Nat
  /-- `TilePos[L]`: the cell origin of each tile-pair; `none` is the row-major default (R215) -/
  pos : Option (List (Nat × Nat))
  /-- `TILE_CODE_MASK[L]` -/
  codeMask : Byte
  /-- `TILE_COLOR_MASK[L]` -/
  colorMask : Byte
  /-- `TILE_FLIP_MASK[L]` -/
  flipMask : Byte
  /-- `TILE_PIXVALS[L]` -/
  pixvals : Nat
  /-- `TILE_BANK_STRIDE[L]` -/
  bankStride : Nat
  /-- `TILE_MON[L]` -/
  mon : Monitor
  /-- `TILE_GFX[L]`: pixel (r, c) of tile `code` at index `64*code + 8*r + c` -/
  gfx : Rom Nat
  /-- `gTile(L)` -/
  ctLayer : Nat
  /-- `TILE_ORG_X[L]`, a signed integer (DESIGN CHOICE, log 31) -/
  orgX : Int
  /-- `TILE_ORG_Y[L]`, a signed integer (DESIGN CHOICE, log 31) -/
  orgY : Int
  deriving DecidableEq, Repr

/-- The fields of one sprite layer S in R12. -/
structure SpriteCfg where
  /-- `SPR_ROWS[S]`; 0 on a board without the layer (R244) -/
  rows : Nat
  /-- `SPR_CELL_W[S]` -/
  cellW : Nat
  /-- `SPR_CELL_H[S]` -/
  cellH : Nat
  /-- `SPR_CODE_MASK[S]` -/
  codeMask : Byte
  /-- `SPR_COLOR_MASK[S]` -/
  colorMask : Byte
  /-- `SPR_COLOR_SHIFT[S]` -/
  colorShift : Nat
  /-- `SPR_FLIP_MASK[S]` -/
  flipMask : Byte
  /-- `SPR_PIXVALS[S]` -/
  pixvals : Nat
  /-- `SPR_BANK_STRIDE[S]` -/
  bankStride : Nat
  /-- `SPR_MON[S]` -/
  mon : Monitor
  /-- `SPR_GFX[S]`: pixel (r, c) of cell `code` at index `cellW*cellH*code + cellW*r + c` -/
  gfx : Rom Nat
  /-- `gSpr(S)` -/
  ctLayer : Nat
  deriving DecidableEq, Repr

/-- Fields and position functions of sprite layer 0 (R122, R237, R238).  A zoom step is positive by
its type (R238, log 20).  The positions sx and sy are signed (R17, R237), and the alignment constants by
R238's examples.  DESIGN CHOICE (log 32): the spec gives `BS_X_LIMIT`, `BS_X_PERIOD`, `BS_Y_PERIOD`,
`BS_Y_BIAS`, `BS_X_UNIT` and `BS_Y_UNIT` no sign; each is a signed integer. -/
structure BigSpriteCfg where
  zoomHiMask : Byte
  xHiMask : Byte
  yHiMask : Byte
  flipMask : Byte
  enTopMask : Byte
  enBotMask : Byte
  rawX : OpenFn Nat Int
  rawY : OpenFn Nat Int
  wrapY : OpenFn (Int × Nat) Bool
  xLimit : Int
  xPeriod : Int
  yPeriod : Int
  yBias : Int
  zoomStepX : OpenFn Nat ℕ+
  zoomStepY : OpenFn Nat ℕ+
  xUnit : Int
  yUnit : Int
  alignX : Int
  alignY : Int
  deriving DecidableEq, Repr

/-- Fields and position functions of sprite layer 1 (R123, R244).  DESIGN CHOICE (log 32): the spec gives
`BS2_X_LIMIT`, `BS2_X_PERIOD`, `BS2_Y_LIMIT` and `BS2_Y_PERIOD` no sign and does not say that `Bs2RawX` and
`Bs2RawY` can be negative; each is a signed integer, as the sx and sy they make are (R17). -/
structure BigSprite2Cfg where
  xHiMask : Byte
  yHiMask : Byte
  flipMask : Byte
  rawX : OpenFn Nat Int
  rawY : OpenFn Nat Int
  xLimit : Int
  xPeriod : Int
  yLimit : Int
  yPeriod : Int
  deriving DecidableEq, Repr

/-- The road unit's parameters (R12, R262 to R276).  The configuration check holds every value an OPEN
index function can take against the table it indexes (R346, log 12). -/
structure RoadCfg where
  /-- `ROAD_Y_FIRST`, `ROAD_Y_LAST`, `ROAD_X_FIRST`, `ROAD_X_LAST` (R262) -/
  yFirst : Nat
  yLast : Nat
  xFirst : Nat
  xLast : Nat
  /-- `ROAD_MON` -/
  mon : Monitor
  /-- `ROAD_INVERT_WHEN`: the value of `roadctl[7]` that inverts `va` (R263) -/
  invertWhen : Bool
  /-- `ROAD_CARRY_PICKS_B`: the carry that selects `ipb` and `ipc[7:4]` (R264) -/
  carryPicksB : Bool
  /-- `ROADROM1` to `ROADROM4` (R265) -/
  rom1 : Rom Byte
  rom2 : Rom Byte
  rom3 : Rom Byte
  rom4 : Rom Byte
  /-- `AREA_NIB[k]` (R265) -/
  nib1 : NibbleHalf
  nib2 : NibbleHalf
  nib3 : NibbleHalf
  nib4 : NibbleHalf
  /-- `ROADROM5`, `Area5Index`, `AREA5_MASK` (R266) -/
  rom5 : Rom Byte
  area5Index : OpenFn Nat Nat
  area5Mask : Byte
  /-- `ROADEN` and its fields (R125, R267) -/
  roaden : Rom Byte
  babitShift : Nat
  sliparBit : Nat
  acciarBit : Nat
  /-- `SPRPRI`, `SprPriIndex` (R269) -/
  sprpri : Rom Byte
  sprPriIndex : OpenFn Nat Nat
  /-- `CollMask(slipar, acciar)` (R269) -/
  collMask : OpenFn (Bool × Bool) Nibble
  /-- `OVERALL`, `OverallIndex(sprpri, babit, sprbuf)` (R270) -/
  overall : Rom Byte
  overallIndex : OpenFn (Nat × Nat × Nat) Nat
  /-- `BGPAL`, `BgIndex(y, px, under)` (R270) -/
  bgpal : Rom Byte
  bgIndex : OpenFn (Nat × Nat × Nat) Nat
  /-- `ROADPAL`, `RoadPalIndex(babit, coch, px)` (R270) -/
  roadpal : Rom Byte
  roadPalIndex : OpenFn (Nat × Nat × Nat) Nat
  /-- `ChannelCombine(mux, sprbuf, road, bg, under)`, a palette index below `PAL_ENTRIES` (R270) -/
  channelCombine : OpenFn (Nat × Nat × Nat × Nat × Nat) Nat
  /-- `ROADSPR_SIZE` (R281) -/
  sprSize : Nat
  /-- every record `SpriteParamDecode` can give (R272, log 25) -/
  paramImage : List SpriteParam
  /-- `SpriteParamDecode(roadspr, s)`, as a position in `paramImage` (R272, log 25) -/
  paramDecode : OpenFn (List Byte × Nat) Nat
  /-- `SpriteXIndex(roadspr, s, x)` (R272) -/
  spriteXIndex : OpenFn (List Byte × Nat × Nat) Bool
  /-- `SpriteRow(P, y)`, not signed (R17, R237, R273); its width is unbounded (DESIGN CHOICE, log 26) -/
  spriteRow : OpenFn (SpriteParam × Nat) Nat
  /-- `SrcPos(P, n+1) - SrcPos(P, n)`: `SrcPos` is 0 at 0 and non-decreasing (R275, log 20) -/
  srcStep : OpenFn (SpriteParam × Nat) Nat
  /-- `SpriteRowData` (R275) -/
  rowData : Rom PixelWord
  /-- `SprMerge(old, s, w)` (R275), a sprite-buffer entry: a natural number of unbounded width (DESIGN
  CHOICE, log 30) -/
  sprMerge : OpenFn (Nat × Nat × PixelWord) Nat
  /-- `SPR_EMPTY` (R271), a sprite-buffer entry of unbounded width (DESIGN CHOICE, log 30) -/
  sprEmpty : Nat
  /-- `OFFROAD_SLOTS` as a set of slots; `ROAD_SLOTS` is its complement (R271, log 20) -/
  offroadSlots : BitVec 16
  deriving DecidableEq, Repr

/-- Where the four bits of a nibble stand in `COLORPROM`, bit 0 of the nibble first; bit k of byte i
stands at place 8*i + k (R303, log 12). -/
structure PromNibble where
  b0 : Nat
  b1 : Nat
  b2 : Nat
  b3 : Nat
  deriving DecidableEq, Repr

/-- The palette mapper's parameters (R301 to R304). -/
structure PaletteCfg where
  /-- `COLORPROM` -/
  colorProm : Rom Byte
  /-- `PAL_ENTRIES` -/
  entries : Nat
  /-- the layout of `PalNibble(COLORPROM, e, ch)`: which four bits it extracts (R303, log 12) -/
  nibble : OpenFn (Nat × Channel) PromNibble
  /-- `PAL_INVERTED` -/
  inverted : Bool
  /-- `PAL_WEIGHTS` of the non-inverted family, of bits 0 to 3 (R302) -/
  weight0 : Nat
  weight1 : Nat
  weight2 : Nat
  weight3 : Nat
  /-- `TRANSPARENT_RGB` (R304) -/
  transparentRGB : RGB
  deriving DecidableEq, Repr

/-- The colour-table constants of one graphics layer (R306).  A period is positive by its type
(log 20).  DESIGN CHOICE (log 35): no rule gives `CT_TOTAL`, `CT_XOR` or a raw value a width; they are
unbounded natural numbers. -/
structure ColorTableCfg where
  total : Nat
  base : Nat
  xorMask : Nat
  period : ℕ+
  residues : List Nat
  deriving DecidableEq, Repr

/-- A rectangle of frame coordinates: `VIS[m]`. -/
structure Rect where
  x : Nat
  y : Nat
  w : Nat
  h : Nat
  deriving DecidableEq, Repr

/-! ### Protection table and board map -/

/-- The direction of a protection entry; only a read may also test `MainPC` (R171).  `pcs` is a list
of closed ranges, `none` meaning any program counter; a program counter has no stated width and is
unbounded (DESIGN CHOICE, log 14). -/
inductive ProtDir where
  | read (pcs : Option (List (Nat × Nat)))
  | write
  deriving DecidableEq, Repr

/-- The action of a protection entry (R171, R172).  DESIGN CHOICE (log 9): the address of main-CPU memory
has no stated width; it is unbounded. -/
inductive ProtAction where
  | passThrough (address : Nat)
  | scratch (mask : Option Byte)
  | constant (value : Byte)
  deriving DecidableEq, Repr

/-- An entry `(dir, o, pred, action)` of `PROT_TABLE` (R171).  `modes` lists the values of
`modeSelector` for which it holds (`none` inside the list is −1), `none` meaning any. -/
structure ProtEntry where
  dir : ProtDir
  o : BitVec 4
  modes : Option (List (Option Byte))
  action : ProtAction
  deriving DecidableEq, Repr

/-- One address of the main CPU in `BUSMAP` (R76): its access to `address` reaches (`unit`, `inst`,
`sel`).  DESIGN CHOICE (log 9): R12 and R76 give the map no direction, while D61 has a board map no read to
a write-only register; the entry takes reads and writes alike.  DESIGN CHOICE (log 9): R194 and D19 leave
to the map which bit of a board port carries a speech line; the entry has no bit position, and the data byte
goes on unchanged. -/
structure BusEntry where
  address : BusAddress
  unit : BitVec 4
  inst : BitVec 3
  sel : BitVec 16
  deriving DecidableEq, Repr

/-- One address of the sound CPU in `BUSMAP`: it reaches one of the two sound latches, for reads and
writes alike (log 9), and can reach nothing else (R73).  DESIGN CHOICE (log 29): R43 and R90 count the
collision accumulator as shared by the two CPU contexts; the model follows R73, so the sound CPU cannot
reach it. -/
structure SoundBusEntry where
  address : BusAddress
  latch : BitVec 1
  deriving DecidableEq, Repr

/-! ### The configuration -/

/-- The parameters of R12.  Sizes of families are lengths: `NTILE` is the length of `tiles`, `NGFX`
that of `cts`. -/
structure Config where
  /-- `ROAD_BOARD` -/
  roadBoard : Bool
  /-- `NCHIP` -/
  nchip : Nat
  /-- the chips and ports with a registered read callback: `PPI_RD` -/
  ppiRd : List (Nat × Port)
  /-- the chips and ports with a registered write callback: `PPI_WR` -/
  ppiWr : List (Nat × Port)
  /-- `PROT_TABLE` -/
  prot : List ProtEntry
  /-- `PROT_UNSET_READ13`: `none` when the board does not fix it (R174, log 15) -/
  protUnsetRead13 : Option Byte
  /-- `PROT_PORT(n)` for the sixteen offsets n: port numbers of 8 bits (R72, R120, R180) -/
  protPort : Vector Byte 16
  /-- `NINPUT` -/
  ninput : Nat
  /-- `SPEECH_STATUS_PORT`: `none` on a board without a speech synthesizer (R198) -/
  speechStatusPort : Option Nat
  /-- `SPEECH_BUSY_MASK` -/
  speechBusyMask : Byte
  /-- `SNDCPU_RESET_ASSERT(d)` -/
  sndCpuResetAssert : OpenFn Byte Bool
  /-- which capabilities other than the PPI callbacks the host supplies (R11, R343, log 23) -/
  hasInputReader : Bool
  hasMainMemRead : Bool
  hasMainMemWrite : Bool
  hasSpeechBusy : Bool
  hasSpeechLines : Bool
  hasSndCpuReset : Bool
  /-- bytes of main-CPU memory, for the check of pass-through addresses (R346, log 22) -/
  mainMemSize : Nat
  /-- the tile layers; `NTILE` of them -/
  tiles : List TileCfg
  /-- the two sprite layers (R36) -/
  spr0 : SpriteCfg
  spr1 : SpriteCfg
  bigSprite : BigSpriteCfg
  bigSprite2 : BigSprite2Cfg
  /-- `FRAME_W`, `FRAME_H`, `VIS[m]` -/
  frameW : Nat
  frameH : Nat
  visTop : Rect
  visBottom : Rect
  /-- `SCROLL_ROWS` -/
  scrollRows : Nat
  /-- whether `SCROLL_DIR` is −1 (R325) -/
  scrollNegative : Bool
  /-- `SCROLL_LAYER` -/
  scrollLayer : Nat
  road : RoadCfg
  pal : PaletteCfg
  /-- the graphics layers of the colour table; `NGFX` of them -/
  cts : List ColorTableCfg
  /-- `NVRAM_SIZE` -/
  nvramSize : Nat
  /-- `BUSMAP`: the main CPU's addresses -/
  busmap : List BusEntry
  /-- `BUSMAP`: the sound CPU's addresses -/
  soundBus : List SoundBusEntry
  deriving DecidableEq, Repr

/-! ### Free values

Constants without a body.  The `draw…` family gives the values SEQ.RESET leaves unspecified (R53,
log 5), indexed by the number of the request, the piece of state and a position in it; the rest are
named after what leaves them open. -/

namespace Config

/-- A drawn byte (R53). -/
opaque drawByte : Nat → Site → Nat → Byte
/-- A drawn palette index (R53, log 18). -/
opaque drawPixel : Nat → Site → Nat → Nat
/-- A drawn sprite-parameter record, as a place among those the board's decoding can give (R45,
log 25). -/
opaque drawParam : Nat → Nat → Nat
/-- A drawn column mask of the sprite x-position bitmap (R45). -/
opaque drawMask : Nat → Nat → BitVec 16

/-- The host's k-th answer inside the operation of request n (R85, log 6). -/
opaque freeAnswer : Nat → Nat → Byte
/-- The main CPU's program counter where the host supplies none (U25), of unbounded width (log 14). -/
opaque freeMainPC : Nat → Nat
/-- A read of protection offset 13 after the reset of that number and before any write to it (R174,
R82, log 15). -/
opaque freeUnsetRead13 : Nat → Byte

/-- OPEN functions outside the board's data (log 2). -/
opaque freeSndCpuResetAssert : Byte → Bool
opaque freeBsRawX : Nat → Int
opaque freeBsRawY : Nat → Int
opaque freeBsWrapY : Int × Nat → Bool
opaque freeZoomStepX : Nat → ℕ+
opaque freeZoomStepY : Nat → ℕ+
opaque freeBs2RawX : Nat → Int
opaque freeBs2RawY : Nat → Int
opaque freeArea5Index : Nat → Nat
opaque freeSprPriIndex : Nat → Nat
opaque freeCollMask : Bool × Bool → Nibble
opaque freeOverallIndex : Nat × Nat × Nat → Nat
opaque freeBgIndex : Nat × Nat × Nat → Nat
opaque freeRoadPalIndex : Nat × Nat × Nat → Nat
opaque freeChannelCombine : Nat × Nat × Nat × Nat × Nat → Nat
opaque freeParamDecode : List Byte × Nat → Nat
opaque freeSpriteXIndex : List Byte × Nat × Nat → Bool
opaque freeSpriteRow : SpriteParam × Nat → Nat
opaque freeSrcStep : SpriteParam × Nat → Nat
opaque freeSprMerge : Nat × Nat × PixelWord → Nat
/-- A place in `COLORPROM` of the bit of that number of an entry's channel (R303). -/
opaque freeNibblePlace : Fin 4 → Nat × Channel → Nat
/-- A channel whose overridden weights sum beyond 8 bits (R302, log 19). -/
opaque freeChannel : Nat → Byte

/-- Reads outside a table, on a board that fails the configuration check (R349, log 13). -/
opaque freeRomByte : Nat → Byte
opaque freeRomPixel : Nat → Nat
opaque freeRomWord : Nat → PixelWord
opaque freeColor : Nat → Nat → Nat
opaque freePixel : Nat → Nat → Nat
opaque freeTilePos : Nat → Nat × Nat

end Config

end Sys2Proof
end

