-- ==== Sys2Proof/Machine/Baseline.lean ====
section
/-!
DEFINITION. The board `State.reset` stands on: a small road board that passes the configuration
check.  DESIGN CHOICE (log 1): the spec gives an OPEN parameter no value, and `State.reset` needs
one; statements about states hold of every board.  Every OPEN function is left free.
-/

namespace Sys2Proof.Machine

open Sys2Proof

/-- The pairs (c, p) of all callbacks of four chips. -/
def allCallbacks : List (Nat × Port) :=
  (List.range 4).flatMap fun c => [(c, .a), (c, .b), (c, .c)]

/-- An OPEN function with no value given. -/
def openFree (α β : Type) : OpenFn α β := ⟨[], none⟩

/-- A table of `size` zero bytes. -/
def zeroRom (size : Nat) : Rom Byte := ⟨size, 0, []⟩

/-- The baseline board's one tile layer: one tile. -/
def baselineTile : TileCfg where
  vramSize := 2
  cols := 1
  rows := 1
  pos := none
  codeMask := 0x00
  colorMask := 0x01
  flipMask := 0x80
  pixvals := 2
  bankStride := 2
  mon := .bottom
  gfx := ⟨16384, 0, [(0, 1)]⟩
  ctLayer := 0
  orgX := 0
  orgY := 0

/-- The baseline board's sprite layers: one row of 16 one-pixel cells. -/
def baselineSprite (mon : Monitor) : SpriteCfg where
  rows := 1
  cellW := 1
  cellH := 1
  codeMask := 0x00
  colorMask := 0x01
  colorShift := 0
  flipMask := 0x80
  pixvals := 2
  bankStride := 2
  mon := mon
  gfx := ⟨256, 0, []⟩
  ctLayer := 0

/-- The baseline board's big-sprite parameters; R122's default flip mask. -/
def baselineBigSprite : BigSpriteCfg where
  zoomHiMask := 0x01
  xHiMask := 0x01
  yHiMask := 0x01
  flipMask := 0x01
  enTopMask := 0x01
  enBotMask := 0x02
  rawX := openFree _ _
  rawY := openFree _ _
  wrapY := openFree _ _
  xLimit := 0
  xPeriod := 0
  yPeriod := 0
  yBias := 0
  zoomStepX := openFree _ _
  zoomStepY := openFree _ _
  xUnit := 0
  yUnit := 0
  alignX := 0
  alignY := 0

/-- The baseline board's parameters of sprite layer 1; R123's default flip mask. -/
def baselineBigSprite2 : BigSprite2Cfg where
  xHiMask := 0x01
  yHiMask := 0x01
  flipMask := 0x01
  rawX := openFree _ _
  rawY := openFree _ _
  xLimit := 0
  xPeriod := 0
  yLimit := 0
  yPeriod := 0

/-- The baseline board's road unit: two scanlines of one chunk, with the defaults of R125, R264 and
R265 (PRESUMED, log 22). -/
def baselineRoad : RoadCfg where
  yFirst := 2
  yLast := 3
  xFirst := 0
  xLast := 7
  mon := .bottom
  invertWhen := true
  carryPicksB := true
  rom1 := zeroRom 4096
  rom2 := zeroRom 4096
  rom3 := zeroRom 4096
  rom4 := zeroRom 4096
  nib1 := .lo
  nib2 := .lo
  nib3 := .hi
  nib4 := .hi
  rom5 := zeroRom 8
  area5Index := openFree _ _
  area5Mask := 0x01
  roaden := zeroRom 32
  babitShift := 0
  sliparBit := 4
  acciarBit := 5
  sprpri := zeroRom 2
  sprPriIndex := openFree _ _
  collMask := openFree _ _
  overall := zeroRom 2
  overallIndex := openFree _ _
  bgpal := zeroRom 2
  bgIndex := openFree _ _
  roadpal := zeroRom 2
  roadPalIndex := openFree _ _
  channelCombine := openFree _ _
  sprSize := 16
  paramImage := [default]
  paramDecode := openFree _ _
  spriteXIndex := openFree _ _
  spriteRow := openFree _ _
  srcStep := openFree _ _
  rowData := ⟨1, 0x12345678, []⟩
  sprMerge := openFree _ _
  sprEmpty := 0
  offroadSlots := 0xFF00

/-- The baseline board's palette: R302's weights and R304's example marker. -/
def baselinePalette : PaletteCfg where
  colorProm := zeroRom 24
  entries := 8
  nibble := openFree _ _
  inverted := true
  weight0 := 0x10
  weight1 := 0x21
  weight2 := 0x46
  weight3 := 0x88
  transparentRGB := ⟨240, 240, 240⟩

/-- The board of `State.reset`. -/
def baseline : Config where
  roadBoard := true
  nchip := 4
  ppiRd := allCallbacks
  ppiWr := allCallbacks
  prot := []
  protUnsetRead13 := none
  protPort := Vector.ofFn fun n => BitVec.ofNat 8 (0x10 * n.val + 0x07)
  ninput := 4
  speechStatusPort := some 1
  speechBusyMask := 0x40
  sndCpuResetAssert := openFree _ _
  hasInputReader := true
  hasMainMemRead := true
  hasMainMemWrite := true
  hasSpeechBusy := true
  hasSpeechLines := true
  hasSndCpuReset := true
  mainMemSize := 0x10000
  tiles := [baselineTile]
  spr0 := baselineSprite .bottom
  spr1 := baselineSprite .top
  bigSprite := baselineBigSprite
  bigSprite2 := baselineBigSprite2
  frameW := 8
  frameH := 8
  visTop := ⟨0, 0, 8, 8⟩
  visBottom := ⟨0, 0, 8, 8⟩
  scrollRows := 1
  scrollNegative := false
  scrollLayer := 0
  road := baselineRoad
  pal := baselinePalette
  cts := [⟨8, 0, 0, 4, [0]⟩]
  nvramSize := 16
  busmap := []
  soundBus := []

end Sys2Proof.Machine
end

