-- ==== Sys2Proof/Machine/Memory.lean ====
section
/-!
DEFINITION. The memories and bitmaps of the block as plain data in one canonical form: a list of
(position, value) pairs with strictly rising positions, none of which holds what an unlisted
position reads as.  What an unlisted position reads as is `Fill.byte` and `Fill.pixel`: 0 at
`State.reset` (DESIGN CHOICE, log 4), a drawn value after a presented SEQ.RESET (R53, log 5).
-/

namespace Sys2Proof.Machine

open Sys2Proof

/-! ### Where unspecified values come from -/

/-- The source of every value the spec leaves to a draw: 0 (the model's `State.reset`, log 3, log 4) or
the free values of request `n` (log 5). -/
inductive Fill where
  | zero
  | draw (n : Nat)
  deriving DecidableEq, Repr

/-- The unspecified byte at position `a` of a piece of state. -/
def Fill.byte : Fill → Site → Nat → Byte
  | .zero, _, _ => 0
  | .draw n, site, a => Config.drawByte n site a

/-- The unspecified palette index at position `a` of a bitmap. -/
def Fill.pixel : Fill → Site → Nat → Nat
  | .zero, _, _ => 0
  | .draw n, site, a => Config.drawPixel n site a

/-- The unspecified sprite-parameter record of slot `s`: one of the records in `image`, those the board's
decoding can give, so that a row drawn before the first ROAD.PARAMS stays in its data too (R45, R349;
DESIGN CHOICE, log 25). -/
def Fill.param (image : List SpriteParam) : Fill → Nat → SpriteParam
  | .zero, _ => ⟨0, 0, 0, 0, 0, 0, 0⟩
  | .draw n, s => image.getD (Config.drawParam n s) (image.headD ⟨0, 0, 0, 0, 0, 0, 0⟩)

/-- The unspecified mask of column `x` of the sprite x-position bitmap (R45). -/
def Fill.mask : Fill → Nat → BitVec 16
  | .zero, _ => 0
  | .draw n, x => Config.drawMask n x

/-! ### Sorted cells -/

/-- The value listed at position `a`. -/
def cellsFind {α : Type} : List (Nat × α) → Nat → Option α
  | [], _ => none
  | (b, v) :: rest, a => if a = b then some v else cellsFind rest a

/-- The cells with position `a` listed as `v`, or not listed for `none`; positions stay rising. -/
def cellsPut {α : Type} : List (Nat × α) → Nat → Option α → List (Nat × α)
  | [], a, some v => [(a, v)]
  | [], _, none => []
  | (b, w) :: rest, a, v =>
    if a < b then
      match v with
      | some v => (a, v) :: (b, w) :: rest
      | none => (b, w) :: rest
    else if a = b then
      match v with
      | some v => (a, v) :: rest
      | none => rest
    else (b, w) :: cellsPut rest a v

/-- The canonical form: positions strictly rising, and no cell holds the unlisted value. -/
abbrev CellsWf {α : Type} (unlisted : Nat → α) (cells : List (Nat × α)) : Prop :=
  (cells.map Prod.fst).Pairwise (· < ·) ∧ ∀ c ∈ cells, c.2 ≠ unlisted c.1

/-! ### Byte memories (R70) -/

/-- A memory of the block: an array of bytes addressed by a byte offset from 0 (R70). -/
structure Memory where
  fill : Fill
  site : Site
  cells : List Host.Cell
  deriving DecidableEq, Repr

/-- A memory nothing has written. -/
def Memory.unwritten (fill : Fill) (site : Site) : Memory := ⟨fill, site, []⟩

/-- What an unlisted address of the memory reads as. -/
def Memory.unlisted (m : Memory) (a : Nat) : Byte := m.fill.byte m.site a

/-- `MemRead(space, addr, 1)` (R15): the byte at offset `a`. -/
def Memory.read (m : Memory) (a : Nat) : Byte := (cellsFind m.cells a).getD (m.unlisted a)

/-- `MemWrite(space, addr, 1, v)` (R15), keeping the canonical form. -/
def Memory.write (m : Memory) (a : Nat) (v : Byte) : Memory :=
  { m with cells := cellsPut m.cells a (if v = m.unlisted a then none else some v) }

/-- The first `size` bytes, in order. -/
def Memory.dump (m : Memory) (size : Nat) : List Byte := (List.range size).map m.read

/-- The memory with the bytes of `bs` written from offset `a` on. -/
def Memory.load (m : Memory) : Nat → List Byte → Memory
  | _, [] => m
  | a, b :: bs => (m.write a b).load (a + 1) bs

/-- The canonical form holds. -/
abbrev Memory.wf (m : Memory) : Prop := CellsWf m.unlisted m.cells

/-! ### Bitmaps (R35, R37, R48) -/

/-- A bitmap of `width` by `height` palette indices; pixel (x, y) stands at position
`y*width + x` (log 18). -/
structure Pixmap where
  width : Nat
  height : Nat
  fill : Fill
  site : Site
  cells : List (Nat × Nat)
  deriving DecidableEq, Repr

/-- A bitmap nothing has drawn in. -/
def Pixmap.undrawn (width height : Nat) (fill : Fill) (site : Site) : Pixmap :=
  ⟨width, height, fill, site, []⟩

/-- What an unlisted pixel of the bitmap reads as. -/
def Pixmap.unlisted (p : Pixmap) (a : Nat) : Nat := p.fill.pixel p.site a

/-- Whether (x, y) is a pixel of the bitmap. -/
def Pixmap.covers (p : Pixmap) (x y : Nat) : Bool := x < p.width && y < p.height

/-- Pixel (x, y).  Outside the bitmap no rule reads on a checked board (R349): a free value
(log 13). -/
def Pixmap.get (p : Pixmap) (x y : Nat) : Nat :=
  if p.covers x y then
    (cellsFind p.cells (y * p.width + x)).getD (p.unlisted (y * p.width + x))
  else Config.freePixel x y

/-- The bitmap with pixel (x, y) set to `v`; outside the bitmap there is no pixel to set. -/
def Pixmap.set (p : Pixmap) (x y v : Nat) : Pixmap :=
  if p.covers x y then
    { p with
      cells := cellsPut p.cells (y * p.width + x)
        (if v = p.unlisted (y * p.width + x) then none else some v) }
  else p

/-- The canonical form holds, and every listed pixel lies in the bitmap. -/
abbrev Pixmap.wf (p : Pixmap) : Prop :=
  CellsWf p.unlisted p.cells ∧ ∀ c ∈ p.cells, c.1 < p.width * p.height

end Sys2Proof.Machine
end

