-- ==== Sys2Proof/Machine/Tables.lean ====
section
/-!
DEFINITION. Reading the board's data (OPEN functions, ROMs) and building the RGB and colour tables
from it (`46_palette_mapper.md` rules R301 to R306).
-/

namespace Sys2Proof.Machine

open Sys2Proof

/-! ### OPEN functions and ROMs -/

/-- The value the board gives an OPEN function at `a`, where it gives one (log 2). -/
def givenAt {α β : Type} [DecidableEq α] (f : OpenFn α β) (a : α) : Option β :=
  match f.points.lookup a with
  | some v => some v
  | none => f.rest

/-- The value of an OPEN function: the board's where it gives one, `free` elsewhere (log 2). -/
def openAt {α β : Type} [DecidableEq α] (f : OpenFn α β) (free : α → β) (a : α) : β :=
  (givenAt f a).getD (free a)

/-- A free value as an index of a table of `size` entries, inside it (R349, log 12). -/
def indexWithin (size i : Nat) : Nat := if i < size then i else 0

/-- The value of an OPEN index function into a table of `size` entries: the board's own where it gives
one, which the configuration check holds against the table (R346), and a free one inside it (log 12). -/
def openIndex {α : Type} [DecidableEq α] (f : OpenFn α Nat) (size : Nat) (free : α → Nat)
    (a : α) : Nat :=
  openAt f (fun a => indexWithin size (free a)) a

/-- An OPEN index function stays inside a table of `size` entries at `a`: the value the board gives does,
and where it gives none there is an entry (R10, R346). -/
def indexInside {α : Type} [DecidableEq α] (f : OpenFn α Nat) (size : Nat) (a : α) : Bool :=
  match givenAt f a with
  | some v => v < size
  | none => 0 < size

/-- An OPEN index function stays inside a table of `size` entries at every argument (R10, R346). -/
def rangeInside {α : Type} [DecidableEq α] (f : OpenFn α Nat) (size : Nat) : Bool :=
  0 < size && (f.points.all fun p => indexInside f size p.1) && f.rest.all (· < size)

/-- Entry `i` of a table; outside it, where no rule reads on a checked board (R349), `free i`
(log 13). -/
def romAt {α : Type} (r : Rom α) (free : Nat → α) (i : Nat) : α :=
  if i < r.size then (cellsFind r.cells i).getD r.fill else free i

/-- Byte `i` of a PROM or pattern ROM. -/
def romByte (r : Rom Byte) (i : Nat) : Byte := romAt r Config.freeRomByte i

/-- Raw pixel `i` of a graphics ROM. -/
def romPixel (r : Rom Nat) (i : Nat) : Nat := romAt r Config.freeRomPixel i

/-- Every entry of a table satisfies `p`: the listed ones do, and the value everywhere else does unless
every entry is listed. -/
def romAll {α : Type} (r : Rom α) (p : α → Bool) : Bool :=
  (p r.fill || (List.range r.size).all fun i => (cellsFind r.cells i).isSome) &&
    r.cells.all fun c => r.size ≤ c.1 || p ((cellsFind r.cells c.1).getD r.fill)

/-! ### The RGB table -/

/-- The weighted sum of a nibble's bits (R302). -/
def weightedSum (w0 w1 w2 w3 : Nat) (nib : Nibble) : Nat :=
  w0 * (nib.getLsbD 0).toNat + w1 * (nib.getLsbD 1).toNat + w2 * (nib.getLsbD 2).toNat
    + w3 * (nib.getLsbD 3).toNat

/-- `Weight(nib)` (R302): the inverted family's weights are fixed, the other family's are
`PAL_WEIGHTS`.  A sum beyond 8 bits, which only overridden weights can give, has no stated channel
value: a free value (log 19). -/
def weight (c : PaletteCfg) (nib : Nibble) : Byte :=
  if c.inverted then BitVec.ofNat 8 (255 - weightedSum 0x10 0x21 0x46 0x88 nib)
  else
    let s := weightedSum c.weight0 c.weight1 c.weight2 c.weight3 nib
    if s ≤ 255 then BitVec.ofNat 8 s else Config.freeChannel s

/-- The four places of a nibble. -/
def nibblePlaces (n : PromNibble) : List Nat := [n.b0, n.b1, n.b2, n.b3]

/-- The layout where the board gives none: four free places in `COLORPROM` (R303, log 2, log 12). -/
def freeNibble (c : PaletteCfg) (a : Nat × Channel) : PromNibble :=
  let place (k : Fin 4) : Nat := indexWithin (8 * c.colorProm.size) (Config.freeNibblePlace k a)
  ⟨place 0, place 1, place 2, place 3⟩

/-- The bit at a place of `COLORPROM`: bit k of byte i stands at 8*i + k. -/
def promBit (r : Rom Byte) (place : Nat) : Bool := (romByte r (place / 8)).getLsbD (place % 8)

/-- `PalNibble(COLORPROM, e, ch)`: the four bits the layout extracts (R303). -/
def palNibble (c : PaletteCfg) (e : Nat) (ch : Channel) : Nibble :=
  let n := openAt c.nibble (freeNibble c) (e, ch)
  BitVec.ofBool (promBit c.colorProm n.b3) ++ BitVec.ofBool (promBit c.colorProm n.b2)
    ++ BitVec.ofBool (promBit c.colorProm n.b1) ++ BitVec.ofBool (promBit c.colorProm n.b0)

/-- Real entry `e` of the RGB table (R301). -/
def rgbEntry (c : PaletteCfg) (e : Nat) : RGB :=
  ⟨weight c (palNibble c e .r), weight c (palNibble c e .g), weight c (palNibble c e .b)⟩

/-- The table PAL.BUILD builds: `PAL_ENTRIES` real entries and the transparent marker (R301,
R304). -/
def buildRgbTable (c : PaletteCfg) : List RGB :=
  (List.range c.entries).map (rgbEntry c) ++ [c.transparentRGB]

/-- `TRANSPARENT`, the index of the appended entry (R304). -/
def transparent (c : Config) : Nat := c.pal.entries

/-! ### Colour tables -/

/-- Whether raw pixel value `v` is one of the layer's transparent values (R306). -/
def isTransparentValue (ct : ColorTableCfg) (v : Nat) : Bool :=
  ct.residues.contains (v % (ct.period : Nat))

/-- The colour-table entry of raw pixel value `v`, `t` being `TRANSPARENT` (R306).  DESIGN CHOICE (log 35):
R14 makes `^` as wide as its left operand, 8 bits unless stated, and no rule gives v a width; the exclusive
or is of unbounded natural numbers. -/
def colorEntry (t : Nat) (ct : ColorTableCfg) (v : Nat) : Nat :=
  if isTransparentValue ct v then t else ct.base + (v ^^^ ct.xorMask)

/-- The table PAL.CTBUILD builds for a graphics layer (R306). -/
def buildColorTable (t : Nat) (ct : ColorTableCfg) : List Nat :=
  (List.range ct.total).map (colorEntry t ct)

/-- The colour tables of every graphics layer (R321). -/
def buildColorTables (c : Config) : List (List Nat) :=
  c.cts.map (buildColorTable (transparent c))

end Sys2Proof.Machine
end

