-- ==== Sys2Proof/Machine/State.lean ====
section
/-!
DEFINITION. The state of the block (`10_state.md` rules R20 to R53), the reasons a step can stop, and
the state after reset.  State is plain data; the board's parameters are its field `cfg`, which no
step writes (DESIGN CHOICE, log 1).
-/

namespace Sys2Proof.Machine

open Sys2Proof

/-! ### Units of state -/

/-- A PPI chip (R22): group modes, direction masks (1 = input), latches and control byte. -/
structure Chip where
  groupA : BitVec 2
  groupB : BitVec 1
  ioA : Byte
  ioB : Byte
  ioC : Byte
  latchA : Byte
  latchB : Byte
  latchC : Byte
  control : Byte
  deriving DecidableEq, Repr

/-- A chip after `init`: all ports input, latches zeroed, `control` = 0x1B, group modes 0 (R27). -/
def Chip.initial : Chip := ⟨0, 0, 0xFF, 0xFF, 0xFF, 0x00, 0x00, 0x00, 0x1B⟩

/-- A tile layer: video RAM, dirty map (one bit per byte), persistent bitmap (R33 to R35). -/
structure TileLayer where
  vram : Memory
  dirty : List Bool
  bitmap : Pixmap
  deriving DecidableEq, Repr

/-- A sprite layer: sprite RAM, dirty map, off-screen bitmap (R36, R37). -/
structure SpriteLayer where
  ram : Memory
  dirty : List Bool
  bitmap : Pixmap
  deriving DecidableEq, Repr

/-- Tile layer L with every dirty bit set and its unspecified contents from `f` (R53). -/
def TileLayer.fresh (f : Fill) (tc : TileCfg) (L : Nat) : TileLayer where
  vram := Memory.unwritten f (.vram L)
  dirty := List.replicate tc.vramSize true
  bitmap := Pixmap.undrawn (8 * tc.cols) (8 * tc.rows) f (.tbitmap L)

/-- Sprite layer S with every dirty bit set and its unspecified contents from `f` (R53). -/
def SpriteLayer.fresh (f : Fill) (sc : SpriteCfg) (S : Nat) : SpriteLayer where
  ram := Memory.unwritten f (.sprram S)
  dirty := List.replicate (64 * sc.rows) true
  bitmap := Pixmap.undrawn (16 * sc.cellW) (sc.rows * sc.cellH) f (.sbitmap S)

/-! ### What the outside presents, and what it sees -/

/-- What a bus master or the host presents: an operation named by its transaction word (R100), presented
by the main CPU, the sequencer or the host, or a CPU's one-byte access, which the board map translates
(R76).  The sound CPU presents accesses alone, and they reach the sound latches alone (R73, log 9,
log 24), not the collision accumulator that R43 and R90 call shared (DESIGN CHOICE, log 29). -/
inductive Presented where
  | word (tw : TW)
  | access (agent : Agent) (address : BusAddress) (write : Bool) (data : Byte)
  deriving DecidableEq, Repr

/-- What travels beside an operation: the main CPU's program counter (R176; of unbounded width, DESIGN
CHOICE, log 14), the NVRAM blob (R87), and the host's answers to the read capabilities the operation
calls, in call order (R85, log 6). -/
structure Beside where
  mainPC : Option Nat
  blob : List Byte
  answers : List Byte
  deriving DecidableEq, Repr

/-- Nothing beside the operation. -/
def Beside.nothing : Beside := ⟨none, [], []⟩

/-- One entry of the total order of operations (R88). -/
structure Request where
  what : Presented
  beside : Beside
  deriving DecidableEq, Repr

/-- The lines of the speech synthesizer that a write drives (R194 to R197). -/
inductive SpeechLine where
  | reset
  | start
  | vcu
  | data
  deriving DecidableEq, Repr

/-- What a run is observed by (R86, log 8): bytes returned by reads, calls of read capabilities,
output events, finished frames and exported NVRAM. -/
inductive Event where
  /-- `return v`: the byte a read puts on the data bus -/
  | busReturn (v : Byte)
  /-- the port-read callback of chip c, port p is invoked -/
  | extRead (c : Nat) (p : Port)
  /-- `ExtWrite(c, p, v)` -/
  | extWrite (c : Nat) (p : Port) (v : Byte)
  /-- the input-port reader is asked for port i -/
  | inputPort (i : Nat)
  /-- the speech busy line is asked -/
  | speechBusy
  /-- main-CPU memory is read -/
  | mainMemRead (a : Nat)
  /-- `MainMemWrite(a, v)` -/
  | mainMemWrite (a : Nat) (v : Byte)
  /-- `SpeechLine(name, b)` -/
  | speechLine (line : SpeechLine) (v : Byte)
  /-- `SoundCpuReset(b)` -/
  | soundCpuReset (b : BitVec 1)
  /-- `FramePresent(frame)`: the visible rectangle of each monitor, row by row (R326) -/
  | framePresent (top bottom : List Nat)
  /-- the copy of the NVRAM region NV.EXPORT returns -/
  | nvExport (bytes : List Byte)
  deriving DecidableEq, Repr

/-! ### The state -/

/-- The state of the block (R20), the configuration it runs on, and the model's own `pending`,
`inputs`, `trace`, `clock` and `resetAt` (log 6, log 7, log 8, log 15). -/
structure State where
  /-- the board (R12, R52) -/
  cfg : Config
  /-- the PPI chips, chip c at position c (R22) -/
  ppi : List Chip
  /-- `modeSelector`; `none` is −1 (R28, log 20) -/
  modeSelector : Option Byte
  /-- the protection scratch registers (R29) -/
  registers : Vector Byte 16
  /-- the two mailbox latches (R30) -/
  soundlatch : Byte
  soundlatch2 : Byte
  /-- the levels last given to the speech lines (R31) -/
  speechReset : BitVec 1
  speechStart : BitVec 1
  speechVcu : BitVec 1
  /-- the sound-CPU reset line (R32) -/
  sndCpuReset : BitVec 1
  /-- the tile layers, layer L at position L (R33 to R35) -/
  tiles : List TileLayer
  /-- the two sprite layers (R36, R37) -/
  spr0 : SpriteLayer
  spr1 : SpriteLayer
  /-- the scroll table (R38) -/
  scroll : Memory
  /-- the control registers of sprite layers 0 and 1 (R39, R40) -/
  bsctrl : Vector Byte 8
  bs2ctrl : Vector Byte 5
  /-- the palette-bank register (R41) -/
  palbank : Byte
  /-- the road registers (R42) -/
  opa : Byte
  opb : Byte
  roadctl : Byte
  ipa : Byte
  ipb : Byte
  ipc : Byte
  /-- the collision accumulator (R43) -/
  collision : Nibble
  /-- the per-scanline working state: empty and false between operations (R44, log 17).  DESIGN CHOICE
  (log 30): the spec gives an entry of the sprite buffer no width or type; it is an unbounded natural
  number. -/
  sprbuf : List Nat
  offroadDrawn : Bool
  /-- the per-frame sprite tables; `sprxmap` starts at column `ROAD_X_FIRST` (R45) -/
  sprparam : Vector SpriteParam 16
  sprxmap : List (BitVec 16)
  /-- the road sprite RAM (R45, R281) -/
  roadspr : Memory
  /-- the built tables (R47) -/
  rgbtable : List RGB
  colortable : List (List Nat)
  /-- the final bitmaps of the monitors (R48).  DESIGN CHOICE (log 27): both are held on every board; a
  one-screen board is one whose missing monitor has an empty `VIS` and is named by no layer -/
  frameTop : Pixmap
  frameBottom : Pixmap
  /-- the NVRAM (R49) -/
  nvram : Memory
  /-- the MODEL's own: requests not yet presented, in the total order of R88 (log 7) -/
  pending : List Request
  /-- the MODEL's own: what travelled beside the request being executed (log 6) -/
  inputs : Beside
  /-- the MODEL's own: the trace, oldest event first (R86, log 8) -/
  trace : List Event
  /-- the MODEL's own: how many requests have been taken; it indexes every free value (log 5,
  log 6) -/
  clock : Nat
  /-- the MODEL's own: the number of the last SEQ.RESET, which indexes what an unset mode latch reads
  as until the next one (R82, log 15) -/
  resetAt : Nat
  deriving DecidableEq, Repr

/-! ### Stops -/

/-- The tables and parameters the configuration check names (R346). -/
inductive TableName where
  | nchip
  | vramSize (L : Nat)
  | tilePos (L : Nat)
  | tileGfx (L : Nat)
  | tileColorTable (L : Nat)
  | sprGfx (S : Nat)
  | sprColorTable (S : Nat)
  | colorProm
  | ctRange (g : Nat)
  | transparentRgb
  | roadRom1
  | roadRom2
  | roadRom3
  | roadRom4
  | roadRom5
  | roadEn
  | sprPri
  | overall
  | bgPal
  | roadPal
  | channelCombine
  | spriteRowData
  | sweepWindow
  | scrollRows
  | roadSprSize
  | protTable
  deriving DecidableEq, Repr

/-- What stops the machine. -/
inductive Fault where
  /-- MalformedROMData (R346): raised by SEQ.RESET, before any state is written, on a board whose
  tables fail the check; names the first failing table.  Safe: the spec's own fatal error (log 16). -/
  | malformedROMData (table : TableName)
  deriving DecidableEq, Repr

/-- What the model refuses. -/
inductive Refusal where
  /-- Raised by an arm of `exec` for an instruction without a meaning.  Safe; no arm raises it. -/
  | notModelled (mnemonic : String)
  /-- Raised by PPI.INIT with a count above 4: an ill-formed configuration, which "the model refuses"
  (R143).  Safe (log 10). -/
  | chipCountAboveFour
  deriving DecidableEq, Repr

/-! ### Reset -/

/-- The state right after SEQ.RESET on board `c` (R53, R321), every value the spec leaves to a draw
taken from `f`, and nothing presented yet. -/
def State.fresh (c : Config) (f : Fill) : State where
  cfg := c
  ppi := List.replicate c.nchip Chip.initial
  modeSelector := none
  registers := Vector.ofFn fun o => f.byte .registers o
  soundlatch := f.byte .soundlatch 0
  soundlatch2 := f.byte .soundlatch2 0
  speechReset := (f.byte .speechReset 0).setWidth 1
  speechStart := (f.byte .speechStart 0).setWidth 1
  speechVcu := (f.byte .speechVcu 0).setWidth 1
  sndCpuReset := (f.byte .sndCpuReset 0).setWidth 1
  tiles := c.tiles.zipIdx.map fun tc => TileLayer.fresh f tc.1 tc.2
  spr0 := SpriteLayer.fresh f c.spr0 0
  spr1 := SpriteLayer.fresh f c.spr1 1
  scroll := Memory.unwritten f .scroll
  bsctrl := Vector.ofFn fun r => f.byte .bsctrl r
  bs2ctrl := Vector.ofFn fun r => f.byte .bs2ctrl r
  palbank := f.byte .palbank 0
  opa := f.byte .opa 0
  opb := f.byte .opb 0
  roadctl := f.byte .roadctl 0
  ipa := f.byte .ipa 0
  ipb := f.byte .ipb 0
  ipc := f.byte .ipc 0
  collision := (f.byte .collision 0).setWidth 4
  sprbuf := []
  offroadDrawn := false
  sprparam := Vector.ofFn fun s => f.param c.road.paramImage s
  sprxmap := (List.range (c.road.xLast + 1 - c.road.xFirst)).map fun i => f.mask (c.road.xFirst + i)
  roadspr := Memory.unwritten f .roadspr
  rgbtable := buildRgbTable c.pal
  colortable := buildColorTables c
  frameTop := Pixmap.undrawn c.frameW c.frameH f (.frame .top)
  frameBottom := Pixmap.undrawn c.frameW c.frameH f (.frame .bottom)
  nvram := Memory.unwritten f .nvram
  pending := []
  inputs := Beside.nothing
  trace := []
  clock := 0
  resetAt := 0

/-- The machine right after reset: the spec's values where it states them (R53), 0 where it leaves a
draw (DESIGN CHOICE, log 3 and log 4), on the baseline board (log 1). -/
def State.reset : State := State.fresh baseline .zero

end Sys2Proof.Machine
end

