-- ==== Sys2Proof/Machine/Ops.lean ====
section
/-!
DEFINITION. The named operations every meaning is written over: outputs, the out-of-range result, the
host's capabilities, and access to the units of `State`.

The block takes no exception and returns from none: it raises no interrupt and has no trap, handler
address or saved register (`60_exceptions.md` rules R347, R350, R355, R358).  Its two run-time error
classes are the results `oorRead` and `oorWrite` (R341) and the default scratch action of the
protection table (R342); the third is the fault of SEQ.RESET (R346).
-/

namespace Sys2Proof.Machine

open Sys2Proof

abbrev Result := Host.Outcome State Fault Refusal

/-! ### Outputs -/

/-- Append an event to the trace (R86). -/
def State.emit (s : State) (e : Event) : State := { s with trace := s.trace ++ [e] }

/-- `return v`: the byte a read transaction puts on the data bus (R15). -/
def State.ret (s : State) (v : Byte) : State := s.emit (.busReturn v)

/-- The result of an out-of-range read: 0, and no state changes (R80, R341). -/
def oorRead (s : State) : Result := .next (s.ret 0x00)

/-- The result of an out-of-range write: nothing (R80, R341). -/
def oorWrite (s : State) : Result := .next s

/-! ### Read capabilities (R85)

The host's k-th answer inside the current operation travels beside the request; where the request
carries none it is a free value (log 6). -/

/-- The host's k-th answer inside the current operation. -/
def State.answer (s : State) (k : Nat) : Byte :=
  match s.inputs.answers[k]? with
  | some v => v
  | none => Config.freeAnswer s.clock k

/-- `ExtRead(c, p)`: the answer and the state in which the callback has been invoked; 0 and no call
if `PPI_RD[c][p]` is false (R15). -/
def extRead (s : State) (c : Nat) (p : Port) : Byte × State :=
  if (c, p) ∈ s.cfg.ppiRd then (s.answer 0, s.emit (.extRead c p)) else (0x00, s)

/-- `InputPort(i)`; an absent reader answers 0 (R343). -/
def inputPort (s : State) (i : Nat) : Byte × State :=
  if s.cfg.hasInputReader then (s.answer 0, s.emit (.inputPort i)) else (0x00, s)

/-- `SpeechBusy()`, asked after the input-port reader: bit 0 of the host's second answer; an absent
line answers 0 (R343). -/
def speechBusy (s : State) : Bool × State :=
  if s.cfg.hasSpeechBusy then ((s.answer 1).getLsbD 0, s.emit .speechBusy) else (false, s)

/-- `MainMemRead(a)`; an absent capability answers 0 (R343). -/
def mainMemRead (s : State) (a : Nat) : Byte × State :=
  if s.cfg.hasMainMemRead then (s.answer 0, s.emit (.mainMemRead a)) else (0x00, s)

/-- `MainPC`: the main CPU's program counter beside the request (R176), free where the host supplies
none.  DESIGN CHOICE (log 14): the spec gives it no width; supplied or free, it is an unbounded natural
number. -/
def State.mainPC (s : State) : Nat :=
  match s.inputs.mainPC with
  | some pc => pc
  | none => Config.freeMainPC s.clock

/-! ### Write capabilities (R86) -/

/-- `ExtWrite(c, p, v)`: nothing if `PPI_WR[c][p]` is false (R15). -/
def extWrite (s : State) (c : Nat) (p : Port) (v : Byte) : State :=
  if (c, p) ∈ s.cfg.ppiWr then s.emit (.extWrite c p v) else s

/-- `MainMemWrite(a, v)`. -/
def mainMemWrite (s : State) (a : Nat) (v : Byte) : State :=
  if s.cfg.hasMainMemWrite then s.emit (.mainMemWrite a v) else s

/-- `SpeechLine(name, b)`. -/
def speechLine (s : State) (line : SpeechLine) (v : Byte) : State :=
  if s.cfg.hasSpeechLines then s.emit (.speechLine line v) else s

/-- `SoundCpuReset(b)`. -/
def soundCpuReset (s : State) (b : BitVec 1) : State :=
  if s.cfg.hasSndCpuReset then s.emit (.soundCpuReset b) else s

/-! ### PPI chips -/

/-- Chip c where the range check of R142 passes. -/
def State.chip? (s : State) (c : BitVec 3) : Option Chip :=
  if c.toNat < s.cfg.nchip then s.ppi[c.toNat]? else none

/-- The bank with chip c replaced. -/
def State.setChip (s : State) (c : BitVec 3) (ch : Chip) : State :=
  { s with ppi := s.ppi.set c.toNat ch }

/-- `io[c][p]`. -/
def Chip.io (ch : Chip) : Port → Byte
  | .a => ch.ioA
  | .b => ch.ioB
  | .c => ch.ioC

/-- `latch[c][p]`. -/
def Chip.latch (ch : Chip) : Port → Byte
  | .a => ch.latchA
  | .b => ch.latchB
  | .c => ch.latchC

/-- `latch[c][p] <- v`. -/
def Chip.setLatch (ch : Chip) (p : Port) (v : Byte) : Chip :=
  match p with
  | .a => { ch with latchA := v }
  | .b => { ch with latchB := v }
  | .c => { ch with latchC := v }

/-! ### Tile and sprite layers, frames -/

/-- Tile layer L and its parameters, where the layer exists (R80). -/
def State.tile? (s : State) (L : Nat) : Option (TileCfg × TileLayer) :=
  match s.cfg.tiles[L]?, s.tiles[L]? with
  | some tc, some tl => some (tc, tl)
  | _, _ => none

/-- The tile layers with layer L replaced. -/
def State.setTile (s : State) (L : Nat) (tl : TileLayer) : State :=
  { s with tiles := s.tiles.set L tl }

/-- Which of the two sprite layers (R36). -/
inductive SpriteId where
  | big0
  | big1
  deriving DecidableEq, Repr

/-- Sprite layer S of a one-bit operand. -/
def spriteOf (S : BitVec 1) : SpriteId := if S = 0 then .big0 else .big1

/-- The parameters of a sprite layer. -/
def State.spriteCfg (s : State) : SpriteId → SpriteCfg
  | .big0 => s.cfg.spr0
  | .big1 => s.cfg.spr1

/-- A sprite layer. -/
def State.sprite (s : State) : SpriteId → SpriteLayer
  | .big0 => s.spr0
  | .big1 => s.spr1

/-- The state with a sprite layer replaced. -/
def State.setSprite (s : State) (S : SpriteId) (sl : SpriteLayer) : State :=
  match S with
  | .big0 => { s with spr0 := sl }
  | .big1 => { s with spr1 := sl }

/-- The size of a sprite RAM: 4 bytes, 16 columns, `SPR_ROWS[S]` rows (R36). -/
def spriteRamSize (sc : SpriteCfg) : Nat := 64 * sc.rows

/-- `frame[m]`. -/
def State.frame (s : State) : Monitor → Pixmap
  | .top => s.frameTop
  | .bottom => s.frameBottom

/-- The state with `frame[m]` replaced. -/
def State.setFrame (s : State) (m : Monitor) (p : Pixmap) : State :=
  match m with
  | .top => { s with frameTop := p }
  | .bottom => { s with frameBottom := p }

/-- `VIS[m]`. -/
def State.vis (s : State) : Monitor → Rect
  | .top => s.cfg.visTop
  | .bottom => s.cfg.visBottom

/-- The pixels of a rectangle, row by row. -/
def rectPixels (r : Rect) : List (Nat × Nat) :=
  (List.range r.h).flatMap fun j => (List.range r.w).map fun i => (r.x + i, r.y + j)

/-- Whether the frame coordinates (x, y) lie in the rectangle. -/
def rectHolds (r : Rect) (x y : Int) : Bool :=
  (r.x : Int) ≤ x && x < (r.x + r.w : Nat) && (r.y : Int) ≤ y && y < (r.y + r.h : Nat)

/-- The palette indices of a monitor's visible rectangle, row by row (R326). -/
def State.visiblePixels (s : State) (m : Monitor) : List Nat :=
  (rectPixels (s.vis m)).map fun xy => (s.frame m).get xy.1 xy.2

/-- `colortable[g][raw]`; outside the table, where no rule reads on a checked board (R349), a free
value (log 13). -/
def State.color (s : State) (g raw : Nat) : Nat :=
  match s.colortable[g]? with
  | some table =>
    match table[raw]? with
    | some v => v
    | none => Config.freeColor g raw
  | none => Config.freeColor g raw

/-- The palette-bank bit of a monitor: bit 0 is the bottom's, bit 1 the top's (R41, R124). -/
def bankBit (palbank : Byte) : Monitor → Bool
  | .bottom => palbank.getLsbD 0
  | .top => palbank.getLsbD 1

end Sys2Proof.Machine
end

