-- ==== Sys2Proof/Machine/Operands.lean ====
section
/-!
DEFINITION. The record formats and control-byte fields the operations take apart (`30_encoding.md`
rules R115 to R129): the control byte in its two forms, tile-pairs, sprite cells, scroll entries, the
big-sprite control registers, the road enable/collision entry.
-/

namespace Sys2Proof.Machine

open Sys2Proof

/-! ### Bytes and bits -/

/-- `hi` above `lo`: `lo | (hi << 8)` of two bytes. -/
def word16 (lo hi : Byte) : Nat := lo.toNat ||| (hi.toNat <<< 8)

/-- A one-bit value as the byte a line setter hands on. -/
def bitByte (b : BitVec 1) : Byte := b.setWidth 8

/-! ### The PPI control byte (R116, R117) -/

/-- The mode-set byte `1 ga ga da dcu gb db dcl`. -/
def modeSetByte (ga : BitVec 2) (da dcu gb db dcl : BitVec 1) : Byte :=
  1#1 ++ ga ++ da ++ dcu ++ gb ++ db ++ dcl

/-- The bit set/reset byte `0 x x x n n n s`. -/
def bitSetResetByte (x n : BitVec 3) (s : BitVec 1) : Byte := 0#1 ++ x ++ n ++ s

/-- The direction mask of a whole port: all inputs for a 1, all outputs for a 0 (R116). -/
def portMask (d : BitVec 1) : Byte := if d = 1 then 0xFF else 0x00

/-- The direction mask of port C from its upper and lower direction bits (R116). -/
def portCMask (dcu dcl : BitVec 1) : Byte :=
  (if dcu = 1 then 0xF0 else 0x00) ||| (if dcl = 1 then 0x0F else 0x00)

/-- `mask` with bit `n` set for s = 1, cleared for s = 0 (R117, R152). -/
def bitSetReset (latch : Byte) (n : BitVec 3) (s : BitVec 1) : Byte :=
  if s = 1 then latch ||| (1#8 <<< n.toNat) else latch &&& ~~~(1#8 <<< n.toNat)

/-! ### Tile-pairs (R118, R214) -/

/-- A decoded tile or sprite cell. -/
structure CellInfo where
  code : Nat
  color : Nat
  flip : Bool
  deriving DecidableEq, Repr

/-- `TileDecode(L, lo, hi)` (R214). -/
def tileDecode (tc : TileCfg) (palbank : Byte) (lo hi : Byte) : CellInfo where
  code := lo.toNat + 256 * (hi &&& tc.codeMask).toNat
  color := ((hi >>> 2) &&& tc.colorMask).toNat + tc.bankStride * (bankBit palbank tc.mon).toNat
  flip := (hi &&& tc.flipMask) != 0

/-- `TilePos[L](t)`: the board's table, or the row-major default (R215).  A pair the table does not
place, which the configuration check rules out, has no stated place: a free value (log 13). -/
def tilePos (tc : TileCfg) (t : Nat) : Nat × Nat :=
  match tc.pos with
  | some table =>
    match table[t]? with
    | some xy => xy
    | none => Config.freeTilePos t
  | none => (8 * (t % tc.cols), 8 * (t / tc.cols))

/-! ### Sprite cells (R119, R234) -/

/-- `CellDecode(S, b0, b1, b2, b3)`; byte 2 is read by nothing (R234). -/
def cellDecode (sc : SpriteCfg) (palbank : Byte) (b0 b1 b3 : Byte) : CellInfo where
  code := b0.toNat + 256 * (b1 &&& sc.codeMask).toNat
  color := ((b3 >>> sc.colorShift) &&& sc.colorMask).toNat
    + sc.bankStride * (bankBit palbank sc.mon).toNat
  flip := (b3 &&& sc.flipMask) != 0

/-! ### Scroll entries (R121) -/

/-- The 9-bit scroll offset of row `r`. -/
def scrollOffset (scroll : Memory) (r : Nat) : Nat :=
  (scroll.read (2 * r)).toNat ||| ((scroll.read (2 * r + 1) &&& 1).toNat <<< 8)

/-! ### Big-sprite control registers (R122, R123) -/

/-- The fields of `bsctrl` (R122). -/
structure BsFields where
  zoom : Nat
  xraw : Nat
  yraw : Nat
  flip : Bool
  enTop : Bool
  enBottom : Bool
  deriving DecidableEq, Repr

/-- Decode `bsctrl` (R122). -/
def bsDecode (c : BigSpriteCfg) (r : Vector Byte 8) : BsFields where
  zoom := word16 r[0] (r[1] &&& c.zoomHiMask)
  xraw := word16 r[2] (r[3] &&& c.xHiMask)
  yraw := word16 r[4] (r[5] &&& c.yHiMask)
  flip := (r[6] &&& c.flipMask) != 0
  enTop := (r[7] &&& c.enTopMask) != 0
  enBottom := (r[7] &&& c.enBotMask) != 0

/-- The fields of `bs2ctrl` (R123). -/
structure Bs2Fields where
  xraw : Nat
  yraw : Nat
  flip : Bool
  deriving DecidableEq, Repr

/-- Decode `bs2ctrl` (R123). -/
def bs2Decode (c : BigSprite2Cfg) (r : Vector Byte 5) : Bs2Fields where
  xraw := word16 r[0] (r[1] &&& c.xHiMask)
  yraw := word16 r[2] (r[3] &&& c.yHiMask)
  flip := (r[4] &&& c.flipMask) != 0

/-! ### Road enable/collision entries (R125) -/

/-- `babit = (e >> BABIT_SHIFT) & 7`. -/
def babitOf (c : RoadCfg) (e : Byte) : Nat := ((e >>> c.babitShift) &&& 7).toNat

/-- `slipar = e[SLIPAR_BIT]`. -/
def sliparOf (c : RoadCfg) (e : Byte) : Bool := e.getLsbD c.sliparBit

/-- `acciar = e[ACCIAR_BIT]`. -/
def acciarOf (c : RoadCfg) (e : Byte) : Bool := e.getLsbD c.acciarBit

/-- The selected nibble of a selector register. -/
def nibbleOf (half : NibbleHalf) (sel : Byte) : Nat :=
  match half with
  | .lo => sel.toNat % 16
  | .hi => sel.toNat / 16

end Sys2Proof.Machine
end

