-- ==== Sys2Proof/Machine/Flags.lean ====
section
/-!
DEFINITION. The flags of the block: it has no condition codes (R50); what its operations set and
clear are the dirty maps (R34, R37, R211, R213, R218, R231) and the collision accumulator (R43,
R269).
-/

namespace Sys2Proof.Machine

open Sys2Proof

/-- Dirty bit `n`. -/
def dirtyBit (d : List Bool) (n : Nat) : Bool := d.getD n false

/-- The map with bit `n` set (R211). -/
def markDirty (d : List Bool) (n : Nat) : List Bool := d.set n true

/-- The map with every bit set (R218, R321, R322). -/
def markAll (d : List Bool) : List Bool := d.map fun _ => true

/-- The map with the `k` bits from `n` on cleared (R213, R233). -/
def clearFrom (d : List Bool) (n : Nat) : Nat → List Bool
  | 0 => d
  | k + 1 => (clearFrom d n k).set (n + k) false

/-- Whether any of the `k` bits from `n` on is set. -/
def anyDirty (d : List Bool) (n k : Nat) : Bool := (List.range k).any fun i => dirtyBit d (n + i)

/-- Store `v` at offset `n`, marking it dirty only if the value changes: the value-equality rule of
R211 and R231. -/
def storeTracked (m : Memory) (d : List Bool) (n : Nat) (v : Byte) : Memory × List Bool :=
  if v = m.read n then (m, d) else (m.write n v, markDirty d n)

/-- Set every dirty bit of every layer on monitor `m` (R218). -/
def markMonitor (s : State) (m : Monitor) : State :=
  { s with
    tiles := s.tiles.zipIdx.map fun tl =>
      match s.cfg.tiles[tl.2]? with
      | some tc => if tc.mon = m then { tl.1 with dirty := markAll tl.1.dirty } else tl.1
      | none => tl.1
    spr0 := if s.cfg.spr0.mon = m then { s.spr0 with dirty := markAll s.spr0.dirty } else s.spr0
    spr1 := if s.cfg.spr1.mon = m then { s.spr1 with dirty := markAll s.spr1.dirty } else s.spr1 }

/-- Set every dirty bit of every layer (`fullRefresh`, R322). -/
def markEverything (s : State) : State :=
  { s with
    tiles := s.tiles.map fun tl => { tl with dirty := markAll tl.dirty }
    spr0 := { s.spr0 with dirty := markAll s.spr0.dirty }
    spr1 := { s.spr1 with dirty := markAll s.spr1.dirty } }

/-- OR a masked priority nibble into the collision accumulator (R269). -/
def orCollision (s : State) (sprpri mask : Nibble) : State :=
  { s with collision := s.collision ||| (sprpri &&& mask) }

end Sys2Proof.Machine
end

