-- ==== Sys2Proof/Machine/Bus.lean ====
section
/-!
DEFINITION. Words no other row takes (`30_encoding.md` rule R130) and the board's address map
(`20_memory.md` rules R71 to R76).
-/

namespace Sys2Proof.Machine

open Sys2Proof

/-- BUS.OOR: a read returns 0, a write does nothing (R130). -/
def execBusOor (_unit : BitVec 4) (w : BitVec 1) (s : State) : Result :=
  if w = 0 then oorRead s else oorWrite s

/-- The protection offset whose port it is, where the address is one (R120): one of the sixteen, since no
other has a port (R180).  DESIGN CHOICE (log 9): the spec does not say that `PROT_PORT` is injective; of two
offsets on one port the lower is meant. -/
def protTarget (c : Config) : BusAddress → Option (BitVec 4 × BitVec 3 × BitVec 16)
  | .memory _ => none
  | .ioPort port =>
    ((List.finRange 16).find? fun n => c.protPort[n] = port).map fun n =>
      (2, 0, BitVec.ofNat 16 n.val)

/-- The target of a CPU's access.  Of the main CPU: the first entry of `BUSMAP` for the address, else the
protection port it is (R76, R120).  Of the sound CPU: the latch the map gives, and nothing but a latch
(R73); not the collision accumulator, which R43 and R90 call shared by the two CPU contexts (DESIGN CHOICE,
log 29).  Where there is none: plain RAM (R75, log 9).  DESIGN CHOICE (log 9): the map has no direction, so
an address leads to one target for reads and writes alike; D61's board that maps no read to a write-only
register is not told apart from one that does.  DESIGN CHOICE (log 9): an access is one operation (R329),
and a read gives that operation's byte alone; a board that merges the collision bits into a port of other
inputs (R279) does so outside the block. -/
def busTarget (c : Config) (agent : Agent) (address : BusAddress) :
    Option (BitVec 4 × BitVec 3 × BitVec 16) :=
  match agent with
  | .mainCpu =>
    match c.busmap.find? fun e => e.address = address with
    | some e => some (e.unit, e.inst, e.sel)
    | none => protTarget c address
  | .soundCpu =>
    (c.soundBus.find? fun e => e.address = address).map fun e => (3, e.latch.setWidth 3, 0)

/-- The transaction word of a request, if it reaches the block (R75, R76).  DESIGN CHOICE (log 9): the
data byte of a CPU's access goes into the word as it is, so the level of a speech line is bit 0 of the byte
the CPU writes (R194, D19). -/
def requestWord (c : Config) (p : Presented) : Option TW :=
  match p with
  | .word tw => some tw
  | .access agent address write data =>
    match busTarget c agent address with
    | some (unit, inst, sel) => some (packTW unit (BitVec.ofBool write) inst sel data)
    | none => none

/-- The state in which the first request has been taken and `rest` are left: its inputs are in force
(log 6, log 7). -/
def takeRequest (s : State) (r : Request) (rest : List Request) : State :=
  { s with pending := rest, inputs := r.beside, clock := s.clock + 1 }

end Sys2Proof.Machine
end

