-- ==== Sys2Proof/Machine/Nvram.lean ====
section
/-!
DEFINITION. The NVRAM region, unit NV (`20_memory.md` rule R87, `10_state.md` rule R49).
-/

namespace Sys2Proof.Machine

open Sys2Proof

/-- The NVRAM after importing `blob` (R87): a blob of exactly `NVRAM_SIZE` bytes replaces the region.
Bytes beyond the region have nowhere to go; a region byte the blob does not give is unspecified
(R49): a free value (log 11). -/
def importNvram (size clock : Nat) (blob : List Byte) : Memory :=
  if size ≤ blob.length then (Memory.unwritten .zero .nvram).load 0 (blob.take size)
  else (Memory.unwritten (.draw clock) .nvram).load 0 blob

/-- NV.RD (R87); out of range reads 0 (R80). -/
def execNvRd (n : BitVec 16) (s : State) : Result :=
  if n.toNat < s.cfg.nvramSize then .next (s.ret (s.nvram.read n.toNat)) else oorRead s

/-- NV.WR (R87); out of range does nothing (R80). -/
def execNvWr (n : BitVec 16) (d : Byte) (s : State) : Result :=
  if n.toNat < s.cfg.nvramSize then .next { s with nvram := s.nvram.write n.toNat d } else oorWrite s

/-- NV.EXPORT: a copy of the region, no state change (R87). -/
def execNvExport (s : State) : Result := .next (s.emit (.nvExport (s.nvram.dump s.cfg.nvramSize)))

/-- NV.IMPORT: the blob beside the word replaces the region (R87, log 11). -/
def execNvImport (s : State) : Result :=
  .next { s with nvram := importNvram s.cfg.nvramSize s.clock s.inputs.blob }

end Sys2Proof.Machine
end

