-- ==== Sys2Proof/Machine/Palette.lean ====
section
/-!
DEFINITION. PaletteAndColorMapper (`46_palette_mapper.md` rules R300 to R309); the tables themselves
are built in `Tables.lean`.
-/

namespace Sys2Proof.Machine

open Sys2Proof

/-- PAL.BUILD (R301). -/
def execPalBuild (s : State) : Result := .next { s with rgbtable := buildRgbTable s.cfg.pal }

/-- PAL.CTBUILD: graphics layer g; a layer that does not exist does nothing (R306). -/
def execPalCtBuild (g : BitVec 3) (s : State) : Result :=
  match s.cfg.cts[g.toNat]? with
  | some ct =>
    .next { s with
      colortable := s.colortable.set g.toNat (buildColorTable (transparent s.cfg) ct) }
  | none => .next s

end Sys2Proof.Machine
end

