-- ==== Sys2Proof/Machine/Ppi.lean ====
section
/-!
DEFINITION. PeripheralIOChip, unit PPI (`40_ppi.md` rules R140 to R157).
-/

namespace Sys2Proof.Machine

open Sys2Proof

/-! ### Shared operations -/

/-- The value a port-write callback sees: latch bits on outputs, 1 on inputs (R141). -/
def Chip.muxed (ch : Chip) (p : Port) : Byte :=
  (ch.latch p &&& ~~~(ch.io p)) ||| (0xFF &&& ch.io p)

/-- `Emit(c, p)` for the chip `ch` now at c (R141). -/
def emitPort (s : State) (c : BitVec 3) (ch : Chip) (p : Port) : State :=
  extWrite s c.toNat p (ch.muxed p)

/-- Read port A or B: the latch of an output port, the callback's answer on an input port (R144,
R145). -/
def readPort (c : BitVec 3) (p : Port) (s : State) : Result :=
  match s.chip? c with
  | none => oorRead s
  | some ch =>
    if ch.io p = 0x00 then .next (s.ret (ch.latch p))
    else .next ((extRead s c.toNat p).2.ret (extRead s c.toNat p).1)

/-- Write a data port: store in the latch, then emit (R148 to R150). -/
def writePort (c : BitVec 3) (p : Port) (d : Byte) (s : State) : Result :=
  match s.chip? c with
  | none => oorWrite s
  | some ch => .next (emitPort (s.setChip c (ch.setLatch p d)) c (ch.setLatch p d) p)

/-- The chip after a mode-set by control byte `d` with the given fields (R151). -/
def Chip.modeSet (d : Byte) (ga : BitVec 2) (da dcu gb db dcl : BitVec 1) : Chip where
  groupA := ga
  groupB := gb
  ioA := portMask da
  ioB := portMask db
  ioC := portCMask dcu dcl
  latchA := 0x00
  latchB := 0x00
  latchC := 0x00
  control := d

/-- Reset the first `n` chips of the bank (R143). -/
def initChips (n : Nat) (ppi : List Chip) : List Chip :=
  ppi.zipIdx.map fun ch => if ch.2 < n then Chip.initial else ch.1

/-! ### Meanings -/

/-- PPI.INIT (R143).  A count above 4 is refused by the spec's own words; a count other than `NCHIP`
breaks a host obligation and follows the pseudocode for the chips there are (log 10). -/
def execPpiInit (chipCount : Byte) (s : State) : Result :=
  if 4 < chipCount.toNat then .refused .chipCountAboveFour
  else .next { s with ppi := initChips chipCount.toNat s.ppi }

/-- PPI.RD.A (R144). -/
def execPpiRdA (c : BitVec 3) (s : State) : Result := readPort c .a s

/-- PPI.RD.B (R145). -/
def execPpiRdB (c : BitVec 3) (s : State) : Result := readPort c .b s

/-- PPI.RD.C: bit by bit, latch on outputs, the callback's answer on inputs; the callback is invoked
on every read (R146). -/
def execPpiRdC (c : BitVec 3) (s : State) : Result :=
  match s.chip? c with
  | none => oorRead s
  | some ch =>
    let e := extRead s c.toNat .c
    .next (e.2.ret ((ch.latchC &&& ~~~ch.ioC) ||| (e.1 &&& ch.ioC)))

/-- PPI.RD.CTRL: always 0xFF (R147). -/
def execPpiRdCtrl (c : BitVec 3) (s : State) : Result :=
  match s.chip? c with
  | none => oorRead s
  | some _ => .next (s.ret 0xFF)

/-- PPI.WR.A (R148). -/
def execPpiWrA (c : BitVec 3) (d : Byte) (s : State) : Result := writePort c .a d s

/-- PPI.WR.B (R149). -/
def execPpiWrB (c : BitVec 3) (d : Byte) (s : State) : Result := writePort c .b d s

/-- PPI.WR.C (R150). -/
def execPpiWrC (c : BitVec 3) (d : Byte) (s : State) : Result := writePort c .c d s

/-- PPI.WR.MODE: the mode-set; the three callbacks in order A, B, C after all register updates
(R151). -/
def execPpiWrMode (c : BitVec 3) (ga : BitVec 2) (da dcu gb db dcl : BitVec 1) (s : State) :
    Result :=
  match s.chip? c with
  | none => oorWrite s
  | some _ =>
    let ch := Chip.modeSet (modeSetByte ga da dcu gb db dcl) ga da dcu gb db dcl
    .next (emitPort (emitPort (emitPort (s.setChip c ch) c ch .a) c ch .b) c ch .c)

/-- PPI.WR.BSR: bit set/reset of port C's latch; `control` takes the whole byte (R152, R25). -/
def execPpiWrBsr (c : BitVec 3) (x n : BitVec 3) (b : BitVec 1) (s : State) : Result :=
  match s.chip? c with
  | none => oorWrite s
  | some ch =>
    let ch' := { ch with control := bitSetResetByte x n b, latchC := bitSetReset ch.latchC n b }
    .next (emitPort (s.setChip c ch') c ch' .c)

end Sys2Proof.Machine
end

