-- ==== Sys2Proof/Machine/Prot.lean ====
section
/-!
DEFINITION. ProtectionDecoder, unit PROT (`41_protection.md` rules R170 to R182).
-/

namespace Sys2Proof.Machine

open Sys2Proof

/-! ### Shared operations -/

/-- Whether the mode part of an entry's predicate holds (R171). -/
def ProtEntry.holdsMode (e : ProtEntry) (mode : Option Byte) : Bool :=
  match e.modes with
  | none => true
  | some ms => ms.contains mode

/-- Whether an entry matches a read of offset `o` (R171, R176). -/
def ProtEntry.matchesRead (e : ProtEntry) (o : BitVec 4) (mode : Option Byte) (pc : Nat) : Bool :=
  match e.dir with
  | .write => false
  | .read pcs =>
    e.o = o && ProtEntry.holdsMode e mode &&
      match pcs with
      | none => true
      | some ranges => ranges.any fun r => r.1 ≤ pc && pc ≤ r.2

/-- Whether an entry matches a write of offset `o` (R171, R175). -/
def ProtEntry.matchesWrite (e : ProtEntry) (o : BitVec 4) (mode : Option Byte) : Bool :=
  match e.dir with
  | .write => e.o = o && ProtEntry.holdsMode e mode
  | .read _ => false

/-- `Lookup(R, o, modeSelector, MainPC)`: the first entry in list order that matches, else the
unmasked scratch action (R171, R177). -/
def lookupRead (table : List ProtEntry) (o : BitVec 4) (mode : Option Byte) (pc : Nat) :
    ProtAction :=
  match table.find? fun e => ProtEntry.matchesRead e o mode pc with
  | some e => e.action
  | none => .scratch none

/-- `Lookup(W, o, modeSelector)` (R171, R177). -/
def lookupWrite (table : List ProtEntry) (o : BitVec 4) (mode : Option Byte) : ProtAction :=
  match table.find? fun e => ProtEntry.matchesWrite e o mode with
  | some e => e.action
  | none => .scratch none

/-- `registers[o]`. -/
def State.register (s : State) (o : BitVec 4) : Byte := s.registers[o.toNat]

/-- `registers[o] <- v`. -/
def State.setRegister (s : State) (o : BitVec 4) (v : Byte) : State :=
  { s with registers := s.registers.set o.toNat v }

/-- An action as a read of offset `o` (R172). -/
def protReadAction (act : ProtAction) (o : BitVec 4) (s : State) : Result :=
  match act with
  | .passThrough a => .next ((mainMemRead s a).2.ret (mainMemRead s a).1)
  | .scratch none => .next (s.ret (s.register o))
  | .scratch (some m) => .next (s.ret (s.register o &&& m))
  | .constant v => .next (s.ret v)

/-- An action as a write of `d` to offset `o` (R172). -/
def protWriteAction (act : ProtAction) (o : BitVec 4) (d : Byte) (s : State) : Result :=
  match act with
  | .passThrough a => .next (mainMemWrite s a d)
  | .scratch none => .next (s.setRegister o d)
  | .scratch (some m) => .next (s.setRegister o (d &&& m))
  | .constant _ => .next s

/-! ### Meanings -/

/-- PROT.RD13: the mode latch; before any write to it, what the board fixes or a free value, the same at
every read until a reset or a write (R174, R82, log 15). -/
def execProtRd13 (s : State) : Result :=
  match s.modeSelector with
  | some m => .next (s.ret m)
  | none =>
    match s.cfg.protUnsetRead13 with
    | some v => .next (s.ret v)
    | none => .next (s.ret (Config.freeUnsetRead13 s.resetAt))

/-- PROT.WR13: latch the mode and nothing else (R173). -/
def execProtWr13 (d : Byte) (s : State) : Result := .next { s with modeSelector := some d }

/-- PROT.RD (R176). -/
def execProtRd (o : BitVec 4) (s : State) : Result :=
  protReadAction (lookupRead s.cfg.prot o s.modeSelector s.mainPC) o s

/-- PROT.WR (R175). -/
def execProtWr (o : BitVec 4) (d : Byte) (s : State) : Result :=
  protWriteAction (lookupWrite s.cfg.prot o s.modeSelector) o d s

end Sys2Proof.Machine
end

