-- ==== Sys2Proof/Machine/Road.lean ====
section
/-!
DEFINITION. RoadScanlineGenerator, unit ROAD (`45_road_generator.md` rules R260 to R284).
-/

namespace Sys2Proof.Machine

open Sys2Proof

/-! ### Addresses -/

/-- `VertAddr(y)` (R263). -/
def vertAddr (s : State) (y : Nat) : Nat :=
  let va := (y + s.opa.toNat) % 256
  if s.roadctl.getLsbD 7 = s.cfg.road.invertWhen then va ^^^ 0xFF else va

/-- The carry of R264: bit 8 of the exact sum `x + opb`. -/
def carryOf (opb : Byte) (x : Nat) : Bool := ((x + opb.toNat) / 256) % 2 = 1

/-- `CarrySelect(x)`: the selector register and the colour nibble (R264). -/
def carrySelect (s : State) (x : Nat) : Byte × Nat :=
  if carryOf s.opb x = s.cfg.road.carryPicksB then (s.ipb, s.ipc.toNat / 16)
  else (s.ipa, s.ipc.toNat % 16)

/-- Area bit k: `((rom_k + x + i) >> SHIFT_k) & MASK_k` (R265). -/
def areaBit (romByte x i shift mask : Nat) : Nat := ((romByte + x + i) >>> shift) &&& mask

/-- `ROADROMk[(nib_k << 8) | va]` (R126, R265). -/
def areaRom (rom : Rom Byte) (half : NibbleHalf) (sel : Byte) (va : Nat) : Nat :=
  (romByte rom ((nibbleOf half sel <<< 8) ||| va)).toNat

/-- The fifth area bit depends on the pixel column alone (R266). -/
def area5 (c : RoadCfg) (px : Nat) : Nat :=
  if romByte c.rom5 (openIndex c.area5Index c.rom5.size Config.freeArea5Index px) &&& c.area5Mask
      ≠ 0 then 0x10 else 0

/-- `AreaIndex(sel, va, x, i, px)`: the five area bits combined (R265, R266). -/
def areaIndex (c : RoadCfg) (sel : Byte) (va x i : Nat) : Nat :=
  areaBit (areaRom c.rom1 c.nib1 sel va) x i 8 0x01 |||
  areaBit (areaRom c.rom2 c.nib2 sel va) x i 7 0x02 |||
  areaBit (areaRom c.rom3 c.nib3 sel va) x i 6 0x04 |||
  areaBit (areaRom c.rom4 c.nib4 sel va) x i 5 0x08 |||
  area5 c (x + i)

/-! ### Sprites of the road unit -/

/-- The end-of-row marker of expanded sprite data (R129, R276). -/
def rowSentinel : PixelWord := 0x12345678

/-- Whether `i` is a position in `SpriteRowData`. -/
abbrev inRowData (c : RoadCfg) (i : Nat) : Prop := i < c.rowData.size

/-- `SpriteRowData[i]`; outside the data, where no row of a checked board reads (R346, R349), a free
value (log 13, log 25). -/
def rowWord (c : RoadCfg) (i : Nat) : PixelWord := romAt c.rowData Config.freeRomWord i

/-- The mask of column px of the sprite x-position bitmap. -/
def columnMask (s : State) (px : Nat) : BitVec 16 := s.sprxmap.getD (px - s.cfg.road.xFirst) 0

/-- Entry px of the sprite buffer; an entry nothing has drawn is `SPR_EMPTY` (R271). -/
def bufferAt (c : RoadCfg) (buf : List Nat) (px : Nat) : Nat := buf.getD (px - c.xFirst) c.sprEmpty

/-- `SrcPos(P, n+1) - SrcPos(P, n)` (R275). -/
def srcStep (c : RoadCfg) (P : SpriteParam) (n : Nat) : Nat :=
  openAt c.srcStep Config.freeSrcStep (P, n)

/-- Where the row of scanline y starts in the data: `P.offset + SpriteRow(P, y) * P.rowStride` (R273). -/
def rowBase (c : RoadCfg) (P : SpriteParam) (y : Nat) : Nat :=
  P.offset + openAt c.spriteRow Config.freeSpriteRow (P, y) * P.rowStride

/-- How many columns of a row lie left of or on `ROAD_X_LAST` (R275). -/
def rowColumns (c : RoadCfg) (P : SpriteParam) : Nat := c.xLast + 1 - P.xoffset

/-- `DrawSpriteRow(s, P, base)` from position n, source position j, for at most `fuel` columns
(R275).  The row ends at the sentinel (R276) and at `ROAD_X_LAST`. -/
def drawRow (s : State) (slot : Nat) (P : SpriteParam) (base : Nat) :
    (fuel n j : Nat) → List Nat → List Nat
  | 0, _, _, buf => buf
  | fuel + 1, n, j, buf =>
    let c := s.cfg.road
    let px := P.xoffset + n
    if px > c.xLast then buf
    else if rowWord c (base + j) = rowSentinel then buf
    else
      drawRow s slot P base fuel (n + 1) (j + srcStep c P n)
        (if c.xFirst ≤ px ∧ (columnMask s px).getLsbD slot then
          buf.set (px - c.xFirst)
            (openAt c.sprMerge Config.freeSprMerge (bufferAt c buf px, slot, rowWord c (base + j)))
        else buf)

/-- `DrawSpriteRow` in full: enough fuel to reach `ROAD_X_LAST` (R275). -/
def drawSpriteRow (s : State) (slot : Nat) (P : SpriteParam) (base : Nat) (buf : List Nat) :
    List Nat :=
  drawRow s slot P base (rowColumns s.cfg.road P) 0 0 buf

/-- One slot of `DrawSpriteGroup` (R273). -/
def drawSlot (s : State) (y : Nat) (buf : List Nat) (slot : Fin 16) : List Nat :=
  let P := s.sprparam[slot]
  if P.miny ≤ y ∧ y < P.maxy then
    drawSpriteRow s slot P (rowBase s.cfg.road P y) buf
  else buf

/-- The slots of a group in ascending order: `OFFROAD_SLOTS`, or `ROAD_SLOTS`, its complement
(R271). -/
def groupSlots (c : RoadCfg) (offroad : Bool) : List (Fin 16) :=
  (List.finRange 16).filter fun slot => c.offroadSlots.getLsbD slot = offroad

/-- `DrawSpriteGroup(G, y)` (R273). -/
def drawSpriteGroup (s : State) (offroad : Bool) (y : Nat) : State :=
  { s with sprbuf := (groupSlots s.cfg.road offroad).foldl (drawSlot s y) s.sprbuf }

/-! ### One pixel, one scanline -/

/-- `SPRPRI[SprPriIndex(b)] & 0x0F` (R269). -/
def spritePriority (c : RoadCfg) (b : Nat) : Nibble :=
  (romByte c.sprpri (openIndex c.sprPriIndex c.sprpri.size Config.freeSprPriIndex b)).setWidth 4

/-- `RoadPixel`: the palette index of a full-pass pixel (R270). -/
def roadPixel (c : RoadCfg) (entries y px babit coch buf : Nat) (sprpri : Nibble) (under : Nat) :
    Nat :=
  let bg := romByte c.bgpal (openIndex c.bgIndex c.bgpal.size Config.freeBgIndex (y, px, under))
  let road := romByte c.roadpal
    (openIndex c.roadPalIndex c.roadpal.size Config.freeRoadPalIndex (babit, coch, px))
  let mux := romByte c.overall
    (openIndex c.overallIndex c.overall.size Config.freeOverallIndex (sprpri.toNat, babit, buf))
  openIndex c.channelCombine entries Config.freeChannelCombine
    (mux.toNat, buf, road.toNat, bg.toNat, under)

/-- The off-road trigger of one pixel: the first off-road pixel of the scanline draws the off-road
group, once (R268). -/
def offRoadTrigger (s : State) (y : Nat) (acciar : Bool) : State :=
  if acciar && !s.offroadDrawn then { drawSpriteGroup s true y with offroadDrawn := true } else s

/-- Write the full-pass pixel of column px on scanline y (R270). -/
def writeRoadPixel (s : State) (y px babit coch : Nat) (sprpri : Nibble) : State :=
  let m := s.cfg.road.mon
  s.setFrame m <| (s.frame m).set px y <|
    roadPixel s.cfg.road s.cfg.pal.entries y px babit coch (bufferAt s.cfg.road s.sprbuf px) sprpri
      ((s.frame m).get px y)

/-- The pixel `x + i` of a scanline: trigger, collision, and in the full pass the pixel, in that
order (R261). -/
def roadPixelStep (minimal : Bool) (y va x : Nat) (s : State) (i : Nat) : State :=
  let c := s.cfg.road
  let sc := carrySelect s x
  let e := romByte c.roaden (areaIndex c sc.1 va x i)
  let s1 := offRoadTrigger s y (acciarOf c e)
  let sprpri := spritePriority c (bufferAt c s1.sprbuf (x + i))
  let s2 := orCollision s1 sprpri
    (openAt c.collMask Config.freeCollMask (sliparOf c e, acciarOf c e))
  if minimal then s2 else writeRoadPixel s2 y (x + i) (babitOf c e) sc.2 sprpri

/-- A chunk of 8 pixels from column x (R261, R262). -/
def roadChunk (minimal : Bool) (y va : Nat) (s : State) (x : Nat) : State :=
  (List.range 8).foldl (roadPixelStep minimal y va x) s

/-- The first columns of the chunks of the sweep window (R262). -/
def chunkColumns (c : RoadCfg) : List Nat :=
  (List.range ((c.xLast + 8 - c.xFirst) / 8)).map fun k => c.xFirst + 8 * k

/-- The start of a scanline: an empty sprite buffer, the flag down, the road sprites drawn (R261,
R271). -/
def beginScanline (s : State) (y : Nat) : State :=
  drawSpriteGroup
    { s with
      sprbuf := List.replicate (s.cfg.road.xLast + 1 - s.cfg.road.xFirst) s.cfg.road.sprEmpty
      offroadDrawn := false }
    false y

/-- The end of a scanline: its working state is dead (R44, log 17). -/
def endScanline (s : State) : State := { s with sprbuf := [], offroadDrawn := false }

/-- ROAD.LINE as a state change (R261). -/
def roadLine (minimal : Bool) (y : Nat) (s : State) : State :=
  if s.cfg.roadBoard = false then s
  else if y < s.cfg.road.yFirst ∨ s.cfg.road.yLast < y then s
  else
    endScanline
      ((chunkColumns s.cfg.road).foldl (roadChunk minimal y (vertAddr s y)) (beginScanline s y))

/-! ### The per-frame tables -/

/-- `SpriteParamDecode(roadspr, s)` (R272, log 25). -/
def decodeParam (c : RoadCfg) (bytes : List Byte) (slot : Nat) : SpriteParam :=
  c.paramImage.getD
    (openIndex c.paramDecode c.paramImage.length Config.freeParamDecode (bytes, slot)) default

/-- The column mask of px: bit s is `SpriteXIndex(roadspr, s, px)` (R272). -/
def decodeColumn (c : RoadCfg) (bytes : List Byte) (px : Nat) : BitVec 16 :=
  (List.finRange 16).foldl
    (fun m slot =>
      if openAt c.spriteXIndex Config.freeSpriteXIndex (bytes, slot.val, px) then
        m ||| (1#16 <<< slot.val) else m) 0

/-- ROAD.PARAMS as a state change (R272). -/
def roadParams (s : State) : State :=
  if s.cfg.roadBoard then
    let c := s.cfg.road
    let bytes := s.roadspr.dump c.sprSize
    { s with
      sprparam := Vector.ofFn fun slot => decodeParam c bytes slot
      sprxmap := (List.range (c.xLast + 1 - c.xFirst)).map fun i =>
        decodeColumn c bytes (c.xFirst + i) }
  else s

/-- The visible scanlines, top to bottom (R262).  DESIGN CHOICE (log 34): the spec does not bound
`ROAD_Y_LAST`; scanlines above 255 are visible too, though no ROAD.LINE word names them (R261). -/
def visibleLines (c : RoadCfg) : List Nat :=
  (List.range (c.yLast + 1 - c.yFirst)).map fun k => c.yFirst + k

/-- ROAD.PARAMS and then every visible scanline (R322, R323), its number not cut to the 8 bits of a
ROAD.LINE word (DESIGN CHOICE, log 34). -/
def roadPass (minimal : Bool) (s : State) : State :=
  if s.cfg.roadBoard then
    (visibleLines s.cfg.road).foldl (fun s y => roadLine minimal y s) (roadParams s)
  else s

/-! ### Meanings -/

/-- ROAD.LINE (R261). -/
def execRoadLine (minimal : BitVec 1) (y : Byte) (s : State) : Result :=
  .next (roadLine (minimal = 1) y.toNat s)

/-- ROAD.PARAMS (R272). -/
def execRoadParams (s : State) : Result := .next (roadParams s)

/-- ROAD.COLL.RD: the read does not clear (R279). -/
def execRoadCollRd (s : State) : Result := .next (s.ret (s.collision.setWidth 8))

/-- ROAD.COLL.CLR (R280). -/
def execRoadCollClr (s : State) : Result := .next { s with collision := 0 }

/-- ROAD.REG.RD: k = 7 names no register, k = 6 is the collision port's (R278, R109). -/
def execRoadRegRd (k : BitVec 3) (s : State) : Result :=
  if k = 0 then .next (s.ret s.opa)
  else if k = 1 then .next (s.ret s.opb)
  else if k = 2 then .next (s.ret s.roadctl)
  else if k = 3 then .next (s.ret s.ipa)
  else if k = 4 then .next (s.ret s.ipb)
  else if k = 5 then .next (s.ret s.ipc)
  else oorRead s

/-- ROAD.REG.WR (R277, R109). -/
def execRoadRegWr (k : BitVec 3) (d : Byte) (s : State) : Result :=
  if k = 0 then .next { s with opa := d }
  else if k = 1 then .next { s with opb := d }
  else if k = 2 then .next { s with roadctl := d }
  else if k = 3 then .next { s with ipa := d }
  else if k = 4 then .next { s with ipb := d }
  else if k = 5 then .next { s with ipc := d }
  else oorWrite s

/-- ROAD.SPR.RD (R282). -/
def execRoadSprRd (n : BitVec 12) (s : State) : Result :=
  if n.toNat < s.cfg.road.sprSize then .next (s.ret (s.roadspr.read n.toNat)) else oorRead s

/-- ROAD.SPR.WR: no dirty tracking (R281). -/
def execRoadSprWr (n : BitVec 12) (d : Byte) (s : State) : Result :=
  if n.toNat < s.cfg.road.sprSize then
    .next { s with roadspr := s.roadspr.write n.toNat d }
  else oorWrite s

end Sys2Proof.Machine
end

