-- ==== Sys2Proof/Machine/Tile.lean ====
section
/-!
DEFINITION. TileLayerRenderer, the palette bank and the scroll table, units VRAM and CTL
(`43_tile_layer.md` rules R210 to R223).
-/

namespace Sys2Proof.Machine

open Sys2Proof

/-! ### Rendering -/

/-- The positions (r, c) of a cell of `h` rows and `w` columns, row by row. -/
def cellPositions (w h : Nat) : List (Nat × Nat) :=
  (List.range h).flatMap fun r => (List.range w).map fun c => (r, c)

/-- Draw a cell of `w` by `h` pixels at (x0, y0), pixel (r, c) taking the index `pixel r c`; a flip
mirrors the columns.  Every pixel is written (R216, R235). -/
def drawCell (w h : Nat) (pixel : Nat → Nat → Nat) (flip : Bool) (x0 y0 : Nat) (p : Pixmap) :
    Pixmap :=
  (cellPositions w h).foldl
    (fun p rc => p.set (x0 + if flip then w - 1 - rc.2 else rc.2) (y0 + rc.1) (pixel rc.1 rc.2)) p

/-- The palette index of pixel (r, c) of a decoded tile (R216). -/
def tilePixel (s : State) (tc : TileCfg) (info : CellInfo) (r c : Nat) : Nat :=
  s.color tc.ctLayer
    (info.color * tc.pixvals + romPixel tc.gfx (64 * info.code + 8 * r + c))

/-- `DrawTile` of the tile-pair (lo, hi) at `TilePos[L](t)` (R214 to R216). -/
def drawTile (s : State) (tc : TileCfg) (t : Nat) (lo hi : Byte) (p : Pixmap) : Pixmap :=
  drawCell 8 8 (tilePixel s tc (tileDecode tc s.palbank lo hi))
    (tileDecode tc s.palbank lo hi).flip (tilePos tc t).1 (tilePos tc t).2 p

/-- Render tile-pair t of a layer if either of its bytes is dirty (R213). -/
def renderPair (s : State) (tc : TileCfg) (tl : TileLayer) (t : Nat) : TileLayer :=
  if dirtyBit tl.dirty (2 * t) || dirtyBit tl.dirty (2 * t + 1) then
    { tl with
      bitmap := drawTile s tc t (tl.vram.read (2 * t)) (tl.vram.read (2 * t + 1)) tl.bitmap
      dirty := clearFrom tl.dirty (2 * t) 2 }
  else tl

/-- The layer with every dirty tile-pair rendered (R213). -/
def renderLayer (s : State) (tc : TileCfg) (tl : TileLayer) : TileLayer :=
  (List.range (tc.vramSize / 2)).foldl (renderPair s tc) tl

/-- TILE.RENDER as a state change: a layer that does not exist does nothing (R213). -/
def tileRender (L : Nat) (s : State) : State :=
  match s.tile? L with
  | some (tc, tl) => s.setTile L (renderLayer s tc tl)
  | none => s

/-! ### Meanings -/

/-- TILE.RENDER (R213). -/
def execTileRender (L : BitVec 3) (s : State) : Result := .next (tileRender L.toNat s)

/-- VRAM.RD (R217), after the range check of R212. -/
def execVramRd (L : BitVec 3) (n : BitVec 16) (s : State) : Result :=
  match s.tile? L.toNat with
  | none => oorRead s
  | some (tc, tl) =>
    if n.toNat < tc.vramSize then .next (s.ret (tl.vram.read n.toNat)) else oorRead s

/-- VRAM.WR: store and mark dirty if the value changes (R211), after the range check of R212. -/
def execVramWr (L : BitVec 3) (n : BitVec 16) (d : Byte) (s : State) : Result :=
  match s.tile? L.toNat with
  | none => oorWrite s
  | some (tc, tl) =>
    if n.toNat < tc.vramSize then
      let st := storeTracked tl.vram tl.dirty n.toNat d
      .next (s.setTile L.toNat { tl with vram := st.1, dirty := st.2 })
    else oorWrite s

/-- CTL.PALBANK.RD (R219). -/
def execCtlPalbankRd (s : State) : Result := .next (s.ret s.palbank)

/-- CTL.PALBANK.WR: store the byte; a toggle of bit 0 dirties every bottom-monitor layer, a toggle of
bit 1 every top-monitor layer (R218). -/
def execCtlPalbankWr (d : Byte) (s : State) : Result :=
  let old := s.palbank
  let s1 := { s with palbank := d }
  let s2 := if bankBit d .bottom != bankBit old .bottom then markMonitor s1 .bottom else s1
  .next (if bankBit d .top != bankBit old .top then markMonitor s2 .top else s2)

/-- CTL.SCROLL.RD (R221); i at or beyond `2*SCROLL_ROWS` is out of range (R110). -/
def execCtlScrollRd (i : Byte) (s : State) : Result :=
  if i.toNat < 2 * s.cfg.scrollRows then .next (s.ret (s.scroll.read i.toNat)) else oorRead s

/-- CTL.SCROLL.WR: no dirty tracking (R220). -/
def execCtlScrollWr (i : Byte) (d : Byte) (s : State) : Result :=
  if i.toNat < 2 * s.cfg.scrollRows then .next { s with scroll := s.scroll.write i.toNat d }
  else oorWrite s

end Sys2Proof.Machine
end

