-- ==== Sys2Proof/Machine/Sprite.lean ====
section
/-!
DEFINITION. SpriteCompositor, unit SPR (`44_sprite_compositor.md` rules R230 to R249).
-/

namespace Sys2Proof.Machine

open Sys2Proof

/-! ### Refresh of the off-screen bitmap -/

/-- The palette index of pixel (r, c) of a decoded sprite cell (R235). -/
def spritePixel (s : State) (sc : SpriteCfg) (info : CellInfo) (r c : Nat) : Nat :=
  s.color sc.ctLayer
    (info.color * sc.pixvals
      + romPixel sc.gfx (sc.cellW * sc.cellH * info.code + sc.cellW * r + c))

/-- The decoded cell k of a sprite RAM (R119, R234). -/
def spriteCell (s : State) (sc : SpriteCfg) (ram : Memory) (k : Nat) : CellInfo :=
  cellDecode sc s.palbank (ram.read (4 * k)) (ram.read (4 * k + 1)) (ram.read (4 * k + 3))

/-- Refresh cell k of a layer if any of its four bytes is dirty (R233). -/
def refreshCell (s : State) (sc : SpriteCfg) (sl : SpriteLayer) (k : Nat) : SpriteLayer :=
  if anyDirty sl.dirty (4 * k) 4 then
    { sl with
      bitmap := drawCell sc.cellW sc.cellH (spritePixel s sc (spriteCell s sc sl.ram k))
        (spriteCell s sc sl.ram k).flip (sc.cellW * (k % 16)) (sc.cellH * (k / 16)) sl.bitmap
      dirty := clearFrom sl.dirty (4 * k) 4 }
  else sl

/-- The layer with every dirty cell refreshed (R233). -/
def refreshLayer (s : State) (sc : SpriteCfg) (sl : SpriteLayer) : SpriteLayer :=
  (List.range (16 * sc.rows)).foldl (refreshCell s sc) sl

/-- SPR.REFRESH of a layer as a state change (R233). -/
def spriteRefresh (S : SpriteId) (s : State) : State :=
  s.setSprite S (refreshLayer s (s.spriteCfg S) (s.sprite S))

/-! ### Composite of layer 0 -/

/-- `BsPosition`: the signed position with its wraparound corrections, each at most once (R237). -/
def bsPosition (c : BigSpriteCfg) (f : BsFields) : Int × Int :=
  let sx := openAt c.rawX Config.freeBsRawX f.xraw
  let sy := openAt c.rawY Config.freeBsRawY f.yraw
  (if sx > c.xLimit then sx - c.xPeriod else sx,
   (if openAt c.wrapY Config.freeBsWrapY (sy, f.zoom) then sy + c.yPeriod else sy) + c.yBias)

/-- A transform from destination to source in 16.16 fixed point (R238). -/
structure BsTransform where
  startx : Int
  starty : Int
  incx : Int
  incy : Int
  deriving DecidableEq, Repr

/-- The x-flip of a transform onto a bitmap `sbw` pixels wide (R238). -/
def flipTransform (sbw : Nat) (t : BsTransform) : BsTransform :=
  { t with startx := (sbw : Int) * 65536 - t.startx - 1, incx := -t.incx }

/-- `BsTransform(sx, sy, zoom, flip)` (R238). -/
def bsTransform (c : BigSpriteCfg) (sbw : Nat) (sx sy : Int) (zoom : Nat) (flip : Bool) :
    BsTransform :=
  let t : BsTransform :=
    { startx := -sx * c.xUnit + c.alignX * zoom
      starty := -sy * c.yUnit + c.alignY * zoom
      incx := ((openAt c.zoomStepX Config.freeZoomStepX zoom : ℕ+) : Nat)
      incy := ((openAt c.zoomStepY Config.freeZoomStepY zoom : ℕ+) : Nat) }
  if flip then flipTransform sbw t else t

/-- The source coordinate of destination `d`: `(start + d*inc) asr 16` (R239). -/
def sourceOf (start inc : Int) (d : Nat) : Int := (start + (d : Int) * inc) / 65536

/-- One destination pixel of `Blit`: the source pixel where it exists and is not transparent (R239). -/
def blitPixel (t : BsTransform) (src : Pixmap) (sbw sbh tr : Nat) (p : Pixmap) (d : Nat × Nat) :
    Pixmap :=
  let u := sourceOf t.startx t.incx d.1
  let v := sourceOf t.starty t.incy d.2
  if 0 ≤ u ∧ u < sbw ∧ 0 ≤ v ∧ v < sbh then
    if src.get u.toNat v.toNat ≠ tr then p.set d.1 d.2 (src.get u.toNat v.toNat) else p
  else p

/-- `Blit(m, …)`: the visible rectangle of monitor `m` (R239). -/
def blit (m : Monitor) (t : BsTransform) (s : State) : State :=
  s.setFrame m <|
    (rectPixels (s.vis m)).foldl
      (blitPixel t s.spr0.bitmap (16 * s.cfg.spr0.cellW) (s.cfg.spr0.rows * s.cfg.spr0.cellH)
        (transparent s.cfg))
      (s.frame m)

/-- SPR.COMPOSITE of layer 0 as a state change: zoom 0 disables the layer (R236). -/
def composite0 (s : State) : State :=
  let f := bsDecode s.cfg.bigSprite s.bsctrl
  if f.zoom = 0 then s
  else
    let pos := bsPosition s.cfg.bigSprite f
    let t := bsTransform s.cfg.bigSprite (16 * s.cfg.spr0.cellW) pos.1 pos.2 f.zoom f.flip
    let s1 := if f.enTop then blit .top t s else s
    if f.enBottom then blit .bottom t s1 else s1

/-! ### Composite of layer 1 -/

/-- The signed position of layer 1 (R244). -/
def bs2Position (c : BigSprite2Cfg) (f : Bs2Fields) : Int × Int :=
  let sx := openAt c.rawX Config.freeBs2RawX f.xraw
  let sy := openAt c.rawY Config.freeBs2RawY f.yraw
  (if sx > c.xLimit then sx - c.xPeriod else sx, if sy > c.yLimit then sy - c.yPeriod else sy)

/-- One source pixel (v, u) of layer 1: it lands at (sx + u, sy + v), mirrored on a flip, where that
is visible and the pixel is not transparent (R244). -/
def placePixel (vis : Rect) (src : Pixmap) (sb2w tr : Nat) (sx sy : Int) (flip : Bool) (p : Pixmap)
    (vu : Nat × Nat) : Pixmap :=
  let dx := sx + (if flip then sb2w - 1 - vu.2 else vu.2 : Nat)
  let dy := sy + vu.1
  if rectHolds vis dx dy ∧ src.get vu.2 vu.1 ≠ tr then
    p.set dx.toNat dy.toNat (src.get vu.2 vu.1)
  else p

/-- SPR.COMPOSITE of layer 1 as a state change (R244). -/
def composite1 (s : State) : State :=
  let f := bs2Decode s.cfg.bigSprite2 s.bs2ctrl
  let pos := bs2Position s.cfg.bigSprite2 f
  let m := s.cfg.spr1.mon
  s.setFrame m <|
    (cellPositions (16 * s.cfg.spr1.cellW) (s.cfg.spr1.rows * s.cfg.spr1.cellH)).foldl
      (placePixel (s.vis m) s.spr1.bitmap (16 * s.cfg.spr1.cellW) (transparent s.cfg) pos.1 pos.2
        f.flip)
      (s.frame m)

/-! ### Meanings -/

/-- SPR.REFRESH: S ≥ 2 does nothing (R233). -/
def execSprRefresh (S : BitVec 3) (s : State) : Result :=
  if S = 0 then .next (spriteRefresh .big0 s)
  else if S = 1 then .next (spriteRefresh .big1 s)
  else .next s

/-- SPR.COMPOSITE.0 (R236). -/
def execSprComposite0 (s : State) : Result := .next (composite0 s)

/-- SPR.COMPOSITE.1 (R244). -/
def execSprComposite1 (s : State) : Result := .next (composite1 s)

/-- SPR.RAM.RD (R232), out of range as R246. -/
def execSprRamRd (S : BitVec 1) (n : BitVec 15) (s : State) : Result :=
  if n.toNat < spriteRamSize (s.spriteCfg (spriteOf S)) then
    .next (s.ret ((s.sprite (spriteOf S)).ram.read n.toNat))
  else oorRead s

/-- SPR.RAM.WR: store and mark dirty if the value changes (R231), out of range as R246. -/
def execSprRamWr (S : BitVec 1) (n : BitVec 15) (d : Byte) (s : State) : Result :=
  if n.toNat < spriteRamSize (s.spriteCfg (spriteOf S)) then
    let sl := s.sprite (spriteOf S)
    let st := storeTracked sl.ram sl.dirty n.toNat d
    .next (s.setSprite (spriteOf S) { sl with ram := st.1, dirty := st.2 })
  else oorWrite s

/-- SPR.CTRL.RD: `bsctrl[r]` of layer 0, `bs2ctrl[r]` of layer 1, 0 otherwise (R245). -/
def execSprCtrlRd (S : BitVec 1) (r : BitVec 15) (s : State) : Result :=
  if S = 0 then
    if h : r.toNat < 8 then .next (s.ret s.bsctrl[r.toNat]) else oorRead s
  else if h : r.toNat < 5 then .next (s.ret s.bs2ctrl[r.toNat]) else oorRead s

/-- SPR.CTRL.WR: marks nothing dirty (R243). -/
def execSprCtrlWr (S : BitVec 1) (r : BitVec 15) (d : Byte) (s : State) : Result :=
  if S = 0 then
    if h : r.toNat < 8 then .next { s with bsctrl := s.bsctrl.set r.toNat d } else oorWrite s
  else if h : r.toNat < 5 then .next { s with bs2ctrl := s.bs2ctrl.set r.toNat d } else oorWrite s

end Sys2Proof.Machine
end

