-- ==== Sys2Proof/Machine/Check.lean ====
section
/-!
DEFINITION. `CheckConfiguration()`, the first step of SEQ.RESET (`60_exceptions.md` rule R346).  The
checks stand in the order of R346's table and the first that fails names its table; the tables of the
road unit are checked on road boards only, and those of a sprite layer only where the layer has rows
(R10: at least the size the index computations can reach; log 12).  `ChannelCombine`, whose result
R270 bounds by `PAL_ENTRIES`, is held with the road tables: a board that gives a value beyond is an
inconsistent parameter set (U12, log 12).
-/

namespace Sys2Proof.Machine

open Sys2Proof

/-! ### Tile layers -/

/-- `VRAM_SIZE[L]`: even, and two bytes per cell under the default placement. -/
def vramSizeOk (tc : TileCfg) : Bool :=
  tc.vramSize % 2 = 0 && (tc.pos.isSome || tc.vramSize = 2 * tc.cols * tc.rows)

/-- The 8×8 cells at two places do not overlap. -/
def cellsDisjoint (a b : Nat × Nat) : Bool :=
  a.1 + 8 ≤ b.1 || b.1 + 8 ≤ a.1 || a.2 + 8 ≤ b.2 || b.2 + 8 ≤ a.2

/-- `TilePos[L]`: every pair placed, in disjoint cells inside the bitmap; the default placement is so
by its form. -/
def tilePosOk (tc : TileCfg) : Bool :=
  match tc.pos with
  | none => true
  | some table =>
    let used := table.take (tc.vramSize / 2)
    tc.vramSize / 2 ≤ table.length &&
    used.all (fun xy => xy.1 + 8 ≤ 8 * tc.cols && xy.2 + 8 ≤ 8 * tc.rows) &&
    decide (used.Pairwise fun a b => cellsDisjoint a b = true)

/-- `CT_TOTAL[g]`, 0 for a layer that does not exist. -/
def ctTotal (c : Config) (g : Nat) : Nat :=
  match c.cts[g]? with
  | some ct => ct.total
  | none => 0

/-- `TILE_GFX[L]`: defined for every code, every pixel below `TILE_PIXVALS[L]`. -/
def tileGfxOk (tc : TileCfg) : Bool :=
  64 * (256 + 256 * tc.codeMask.toNat) ≤ tc.gfx.size && romAll tc.gfx (· < tc.pixvals)

/-- `CT_TOTAL[gTile(L)]` above every raw value a tile can form. -/
def tileColorTableOk (c : Config) (tc : TileCfg) : Bool :=
  (tc.colorMask.toNat + tc.bankStride) * tc.pixvals + tc.pixvals ≤ ctTotal c tc.ctLayer

/-- The checks of tile layer L. -/
def tileChecks (c : Config) (tl : TileCfg × Nat) : List (TableName × Bool) :=
  [(.vramSize tl.2, vramSizeOk tl.1), (.tilePos tl.2, tilePosOk tl.1),
   (.tileGfx tl.2, tileGfxOk tl.1), (.tileColorTable tl.2, tileColorTableOk c tl.1)]

/-! ### Sprite layers -/

/-- `SPR_GFX[S]`. -/
def sprGfxOk (sc : SpriteCfg) : Bool :=
  sc.rows = 0 ||
    (sc.cellW * sc.cellH * (256 + 256 * sc.codeMask.toNat) ≤ sc.gfx.size
      && romAll sc.gfx (· < sc.pixvals))

/-- `CT_TOTAL[gSpr(S)]`. -/
def sprColorTableOk (c : Config) (sc : SpriteCfg) : Bool :=
  sc.rows = 0 ||
    (sc.colorMask.toNat + sc.bankStride) * sc.pixvals + sc.pixvals ≤ ctTotal c sc.ctLayer

/-- The checks of the sprite layers. -/
def spriteChecks (c : Config) : List (TableName × Bool) :=
  [(.sprGfx 0, sprGfxOk c.spr0), (.sprColorTable 0, sprColorTableOk c c.spr0),
   (.sprGfx 1, sprGfxOk c.spr1), (.sprColorTable 1, sprColorTableOk c c.spr1)]

/-! ### Palette -/

/-- `CT_BASE[g]`, `CT_XOR[g]`: every non-transparent value stays in the layer's range (R306) and below
`PAL_ENTRIES` (R346).  DESIGN CHOICE (log 36): R306 does not say whether `CT_XOR` must keep a transparent
value in the layer's range too; here only the non-transparent ones are held to it. -/
def ctRangeOk (c : Config) (ct : ColorTableCfg) : Bool :=
  (List.range ct.total).all fun v =>
    isTransparentValue ct v ||
      ((v ^^^ ct.xorMask) < ct.total && ct.base + (v ^^^ ct.xorMask) < c.pal.entries)

/-- The channel values a real entry can have (R302). -/
def channelValues (c : PaletteCfg) : List Byte :=
  (List.range 16).map fun n => weight c (BitVec.ofNat 4 n)

/-- `TRANSPARENT_RGB` differs from every entry PAL.BUILD can produce: one of its channels is no channel
value (R304).  DESIGN CHOICE (log 33): every triple of channel values counts as one it can produce, whatever
the board's PROM holds and whatever nibbles its layout ties together. -/
def transparentRgbOk (c : PaletteCfg) : Bool :=
  let vs := channelValues c
  !(vs.contains c.transparentRGB.r && vs.contains c.transparentRGB.g
    && vs.contains c.transparentRGB.b)

/-- The nibble of one channel of an entry lies in `COLORPROM`: every place the board gives does, and
where it gives none there is a byte. -/
def nibbleInside (c : PaletteCfg) (a : Nat × Channel) : Bool :=
  match givenAt c.nibble a with
  | some n => (nibblePlaces n).all (· < 8 * c.colorProm.size)
  | none => 0 < c.colorProm.size

/-- `COLORPROM`: every byte `PalNibble` reads for entries 0 to `PAL_ENTRIES - 1`. -/
def colorPromOk (c : PaletteCfg) : Bool :=
  (List.range c.entries).all fun e => [Channel.r, .g, .b].all fun ch => nibbleInside c (e, ch)

/-- The checks of the palette mapper. -/
def paletteChecks (c : Config) : List (TableName × Bool) :=
  [(.colorProm, colorPromOk c.pal)] ++
  (c.cts.zipIdx.map fun g => (.ctRange g.2, ctRangeOk c g.1)) ++
  [(.transparentRgb, transparentRgbOk c.pal)]

/-! ### Road unit -/

/-- The columns of the sweep window (R262). -/
def windowColumns (c : RoadCfg) : List Nat :=
  (List.range (c.xLast + 1 - c.xFirst)).map fun k => c.xFirst + k

/-- `ROADROM5`: covers `Area5Index(px)` for every column of the sweep window. -/
def roadRom5Ok (c : RoadCfg) : Bool :=
  (windowColumns c).all (indexInside c.area5Index c.rom5.size)

/-- The row that starts at `base` holds the sentinel before the data end. -/
def rowTerminated (c : RoadCfg) (base : Nat) : Bool :=
  (List.range c.rowData.size).any fun k => base ≤ k && rowWord c k = rowSentinel

/-- `DrawSpriteRow` from position n, source position j, reads inside the data at every column of at most
`fuel` (R275, R349, log 25): with zoom it may step over the sentinel. -/
def rowWalkOk (c : RoadCfg) (P : SpriteParam) (base : Nat) : (fuel n j : Nat) → Bool
  | 0, _, _ => true
  | fuel + 1, n, j =>
    P.xoffset + n > c.xLast ||
      (inRowData c (base + j) &&
        (rowWord c (base + j) = rowSentinel || rowWalkOk c P base fuel (n + 1) (j + srcStep c P n)))

/-- Every row record P can select on a visible scanline is terminated and read inside the data (R346,
R349, log 25). -/
def paramRowsOk (c : RoadCfg) (P : SpriteParam) : Bool :=
  (visibleLines c).all fun y =>
    !(decide (P.miny ≤ y) && decide (y < P.maxy)) ||
      (rowTerminated c (rowBase c P y) && rowWalkOk c P (rowBase c P y) (rowColumns c P) 0 0)

/-- `SpriteRowData`: holds every row reachable from `SpriteParamDecode`, all of whose records the board
lists (log 25). -/
def spriteRowDataOk (c : RoadCfg) : Bool :=
  rangeInside c.paramDecode c.paramImage.length && c.paramImage.all (paramRowsOk c)

/-- The sweep window: `ROAD_X_LAST - ROAD_X_FIRST + 1`, an integer, is a multiple of 8; the window lies
inside the frame. -/
def roadWindowOk (c : Config) : Bool :=
  ((c.road.xLast : Int) - c.road.xFirst + 1) % 8 = 0 && c.road.xFirst < c.frameW
    && c.road.xLast < c.frameW && c.road.yFirst < c.frameH && c.road.yLast < c.frameH

/-- A visible rectangle inside the frame.  DESIGN CHOICE (log 37): a rectangle of no pixels is held to the
frame by its corner and size like any other, so one whose corner lies beyond the frame is refused. -/
def visOk (c : Config) (r : Rect) : Bool := r.x + r.w ≤ c.frameW && r.y + r.h ≤ c.frameH

/-- The checks of the road unit's tables. -/
def roadChecks (c : Config) : List (TableName × Bool) :=
  let r := c.road
  [(.roadRom1, !c.roadBoard || 4096 ≤ r.rom1.size),
   (.roadRom2, !c.roadBoard || 4096 ≤ r.rom2.size),
   (.roadRom3, !c.roadBoard || 4096 ≤ r.rom3.size),
   (.roadRom4, !c.roadBoard || 4096 ≤ r.rom4.size),
   (.roadRom5, !c.roadBoard || roadRom5Ok r),
   (.roadEn, !c.roadBoard || 32 ≤ r.roaden.size),
   (.sprPri, !c.roadBoard || rangeInside r.sprPriIndex r.sprpri.size),
   (.overall, !c.roadBoard || rangeInside r.overallIndex r.overall.size),
   (.bgPal, !c.roadBoard || rangeInside r.bgIndex r.bgpal.size),
   (.roadPal, !c.roadBoard || rangeInside r.roadPalIndex r.roadpal.size),
   (.channelCombine, !c.roadBoard || rangeInside r.channelCombine c.pal.entries),
   (.spriteRowData, !c.roadBoard || spriteRowDataOk r),
   (.sweepWindow, (!c.roadBoard || roadWindowOk c) && visOk c c.visTop && visOk c c.visBottom)]

/-! ### The rest -/

/-- `SCROLL_ROWS`: 0, or at least the rows of the scrolled layer; at most 128.  DESIGN CHOICE (log 28):
where `SCROLL_LAYER` names no tile layer there is no `TILE_ROWS` to hold it against, and any
`SCROLL_ROWS` up to 128 passes. -/
def scrollRowsOk (c : Config) : Bool :=
  c.scrollRows = 0 ||
    (c.scrollRows ≤ 128 &&
      match c.tiles[c.scrollLayer]? with
      | some tc => tc.rows ≤ c.scrollRows
      | none => true)

/-- Whether some program counter satisfies a read entry's predicate. -/
def pcsSatisfiable (pcs : Option (List (Nat × Nat))) : Bool :=
  match pcs with
  | none => true
  | some ranges => ranges.any fun r => r.1 ≤ r.2

/-- Whether an entry can match with `modeSelector` = −1. -/
def matchesUnset (e : ProtEntry) : Bool :=
  ProtEntry.holdsMode e none &&
    match e.dir with
    | .read pcs => pcsSatisfiable pcs
    | .write => true

/-- One entry of `PROT_TABLE`: none for offset 13, none that matches offset 5 at mode −1 (R178), and
pass-through addresses inside main memory. -/
def protEntryOk (c : Config) (e : ProtEntry) : Bool :=
  e.o != 13 && !(e.o = 5 && matchesUnset e) &&
    match e.action with
    | .passThrough a => a < c.mainMemSize
    | .scratch _ => true
    | .constant _ => true

/-- Every check of R346, in the order of its table. -/
def configChecks (c : Config) : List (TableName × Bool) :=
  [(.nchip, decide (c.nchip ≤ 4))] ++ (c.tiles.zipIdx.flatMap (tileChecks c)) ++ spriteChecks c
    ++ paletteChecks c ++ roadChecks c
    ++ [(.scrollRows, scrollRowsOk c), (.roadSprSize, decide (c.road.sprSize ≤ 4096)),
        (.protTable, c.prot.all (protEntryOk c))]

/-- `CheckConfiguration()`: the first failing table, if any (R346). -/
def checkConfiguration (c : Config) : Option TableName :=
  ((configChecks c).find? fun t => !t.2).map Prod.fst

end Sys2Proof.Machine
end

