-- ==== Sys2Proof/Machine/Seq.lean ====
section
/-!
DEFINITION. ScanlineOrchestrator, unit SEQ (`47_sequencer.md` rules R320 to R330).
-/

namespace Sys2Proof.Machine

open Sys2Proof

/-! ### Shared operations -/

/-- TILE.RENDER of every layer in order (R322, step 1), layers above 7 too, though no TILE.RENDER word names
them (DESIGN CHOICE, log 34). -/
def renderAllTiles (s : State) : State :=
  (List.range s.cfg.tiles.length).foldl (fun s L => tileRender L s) s

/-- The bitmap column that frame column `bx` of bitmap row `by` shows: scrolled on the scrolled layer
(R325). -/
def scrolledColumn (s : State) (L : Nat) (tc : TileCfg) (bx : Int) (row : Nat) : Int :=
  if L = s.cfg.scrollLayer ∧ 0 < s.cfg.scrollRows then
    let off : Int := scrollOffset s.scroll (row / 8)
    (if s.cfg.scrollNegative then bx - off else bx + off) % ((8 * tc.cols : Nat) : Int)
  else bx

/-- One destination pixel of the tile composite of a layer (R325). -/
def scrollPixel (s : State) (L : Nat) (tc : TileCfg) (src : Pixmap) (p : Pixmap) (d : Nat × Nat) :
    Pixmap :=
  let by' := (d.2 : Int) - tc.orgY
  if 0 ≤ by' ∧ by' < (8 * tc.rows : Nat) then
    let bx := scrolledColumn s L tc ((d.1 : Int) - tc.orgX) by'.toNat
    if 0 ≤ bx ∧ bx < (8 * tc.cols : Nat) then p.set d.1 d.2 (src.get bx.toNat by'.toNat) else p
  else p

/-- The tile composite of layer L (R325). -/
def scrollLayer (s : State) (L : Nat) : State :=
  match s.tile? L with
  | some (tc, tl) =>
    s.setFrame tc.mon <|
      (rectPixels (s.vis tc.mon)).foldl (scrollPixel s L tc tl.bitmap) (s.frame tc.mon)
  | none => s

/-- SEQ.SCROLLCOMP as a state change: layers ascending, later ones overwrite (R325). -/
def scrollComp (s : State) : State := (List.range s.cfg.tiles.length).foldl scrollLayer s

/-- `FramePresent(frame)`: the visible pixels of both monitors, none of a monitor the board has not
(R326, log 27). -/
def framePresent (s : State) : State :=
  s.emit (.framePresent (s.visiblePixels .top) (s.visiblePixels .bottom))

/-- SEQ.FRAME as a state change (R322). -/
def renderFrame (fullRefresh : Bool) (s : State) : State :=
  let s1 := renderAllTiles (if fullRefresh then markEverything s else s)
  let s2 := spriteRefresh .big1 (spriteRefresh .big0 s1)
  let s3 := composite1 (composite0 (scrollComp s2))
  framePresent (roadPass false s3)

/-- The state SEQ.RESET leaves: the reset values on the same board, draws for everything the spec
leaves unspecified, the NVRAM untouched (R321, R53).  What lies outside the block goes on: the
requests, the inputs, the trace, the clock, which numbers this reset. -/
def resetState (s : State) : State :=
  { State.fresh s.cfg (.draw s.clock) with
    nvram := s.nvram
    pending := s.pending
    inputs := s.inputs
    trace := s.trace
    clock := s.clock
    resetAt := s.clock }

/-! ### Meanings -/

/-- SEQ.RESET: the configuration check first, before any state is written (R321, R346). -/
def execSeqReset (s : State) : Result :=
  match checkConfiguration s.cfg with
  | some table => .fault (.malformedROMData table)
  | none => .next (resetState s)

/-- SEQ.FRAME (R322). -/
def execSeqFrame (fullRefresh : BitVec 1) (s : State) : Result :=
  .next (renderFrame (fullRefresh = 1) s)

/-- SEQ.COLLONLY: the collision-only pass; nothing on a tile board (R323). -/
def execSeqCollOnly (s : State) : Result := .next (roadPass true s)

/-- SEQ.SCROLLCOMP (R325). -/
def execSeqScrollComp (s : State) : Result := .next (scrollComp s)

end Sys2Proof.Machine
end

