-- ==== Sys2Proof/Machine/Sound.lean ====
section
/-!
DEFINITION. SoundSubsystemBridge and the input ports, units SND and INP (`42_sound_bridge.md` rules
R190 to R201).
-/

namespace Sys2Proof.Machine

open Sys2Proof

/-! ### Shared operations -/

/-- Latch i: 0 is `soundlatch`, 1 is `soundlatch2` (R192). -/
def State.mailbox (s : State) (i : BitVec 1) : Byte := if i = 0 then s.soundlatch else s.soundlatch2

/-- Merge the speech busy line, inverted, into a status byte: "busy=0 sets bit, busy=1 clears bit"
(R127, R198). -/
def mergeBusy (v mask : Byte) (busy : Bool) : Byte := if busy then v &&& ~~~mask else v ||| mask

/-! ### Meanings -/

/-- SND.LATCH.RD (R193). -/
def execSndLatchRd (i : BitVec 1) (s : State) : Result := .next (s.ret (s.mailbox i))

/-- SND.LATCH.WR (R192). -/
def execSndLatchWr (i : BitVec 1) (d : Byte) (s : State) : Result :=
  if i = 0 then .next { s with soundlatch := d } else .next { s with soundlatch2 := d }

/-- SND.SPEECH.RESET.WR (R194). -/
def execSndSpeechResetWr (level : BitVec 1) (s : State) : Result :=
  .next (speechLine { s with speechReset := level } .reset (bitByte level))

/-- SND.SPEECH.START.WR (R195). -/
def execSndSpeechStartWr (level : BitVec 1) (s : State) : Result :=
  .next (speechLine { s with speechStart := level } .start (bitByte level))

/-- SND.SPEECH.VCU.WR (R196). -/
def execSndSpeechVcuWr (level : BitVec 1) (s : State) : Result :=
  .next (speechLine { s with speechVcu := level } .vcu (bitByte level))

/-- SND.SPEECH.DATA.WR: the block keeps no copy (R197). -/
def execSndSpeechDataWr (d : Byte) (s : State) : Result := .next (speechLine s .data d)

/-- SND.CPURESET.WR: the OPEN predicate `SNDCPU_RESET_ASSERT` decides the level (R199). -/
def execSndCpuResetWr (d : Byte) (s : State) : Result :=
  let b : BitVec 1 :=
    if openAt s.cfg.sndCpuResetAssert Config.freeSndCpuResetAssert d then 1 else 0
  .next (soundCpuReset { s with sndCpuReset := b } b)

/-- INP.RD: the host's byte, with the inverted busy line merged in on the status port (R198). -/
def execInpRd (i : BitVec 16) (s : State) : Result :=
  if s.cfg.ninput ≤ i.toNat then oorRead s
  else
    let v := inputPort s i.toNat
    if s.cfg.speechStatusPort = some i.toNat then
      let busy := speechBusy v.2
      .next (busy.2.ret (mergeBusy v.1 s.cfg.speechBusyMask busy.1))
    else .next (v.2.ret v.1)

end Sys2Proof.Machine
end

