-- ==== Sys2Proof/Machine/Dispatch.lean ====
section
/-!
DEFINITION. The meaning of every operation: one arm per constructor of `Instr`, one direct call each.
-/

namespace Sys2Proof.Machine

open Sys2Proof

def exec (i : Instr) (s : State) : Host.Outcome State Fault Refusal :=
  match i with
  | .seqReset => Sys2Proof.Machine.execSeqReset s
  | .seqFrame fullRefresh => Sys2Proof.Machine.execSeqFrame fullRefresh s
  | .seqCollOnly => Sys2Proof.Machine.execSeqCollOnly s
  | .seqScrollComp => Sys2Proof.Machine.execSeqScrollComp s
  | .ppiInit chipCount => Sys2Proof.Machine.execPpiInit chipCount s
  | .tileRender L => Sys2Proof.Machine.execTileRender L s
  | .sprRefresh S => Sys2Proof.Machine.execSprRefresh S s
  | .sprComposite0 => Sys2Proof.Machine.execSprComposite0 s
  | .sprComposite1 => Sys2Proof.Machine.execSprComposite1 s
  | .roadParams => Sys2Proof.Machine.execRoadParams s
  | .roadLine minimal y => Sys2Proof.Machine.execRoadLine minimal y s
  | .palBuild => Sys2Proof.Machine.execPalBuild s
  | .palCtBuild g => Sys2Proof.Machine.execPalCtBuild g s
  | .nvExport => Sys2Proof.Machine.execNvExport s
  | .nvImport => Sys2Proof.Machine.execNvImport s
  | .ppiRdA c => Sys2Proof.Machine.execPpiRdA c s
  | .ppiRdB c => Sys2Proof.Machine.execPpiRdB c s
  | .ppiRdC c => Sys2Proof.Machine.execPpiRdC c s
  | .ppiRdCtrl c => Sys2Proof.Machine.execPpiRdCtrl c s
  | .ppiWrA c d => Sys2Proof.Machine.execPpiWrA c d s
  | .ppiWrB c d => Sys2Proof.Machine.execPpiWrB c d s
  | .ppiWrC c d => Sys2Proof.Machine.execPpiWrC c d s
  | .ppiWrMode c ga da dcu gb db dcl => Sys2Proof.Machine.execPpiWrMode c ga da dcu gb db dcl s
  | .ppiWrBsr c x n b => Sys2Proof.Machine.execPpiWrBsr c x n b s
  | .protRd13 => Sys2Proof.Machine.execProtRd13 s
  | .protWr13 d => Sys2Proof.Machine.execProtWr13 d s
  | .protRd o => Sys2Proof.Machine.execProtRd o s
  | .protWr o d => Sys2Proof.Machine.execProtWr o d s
  | .sndLatchRd n => Sys2Proof.Machine.execSndLatchRd n s
  | .sndLatchWr n d => Sys2Proof.Machine.execSndLatchWr n d s
  | .sndSpeechResetWr level => Sys2Proof.Machine.execSndSpeechResetWr level s
  | .sndSpeechStartWr level => Sys2Proof.Machine.execSndSpeechStartWr level s
  | .sndSpeechVcuWr level => Sys2Proof.Machine.execSndSpeechVcuWr level s
  | .sndSpeechDataWr d => Sys2Proof.Machine.execSndSpeechDataWr d s
  | .sndCpuResetWr d => Sys2Proof.Machine.execSndCpuResetWr d s
  | .vramRd L n => Sys2Proof.Machine.execVramRd L n s
  | .vramWr L n d => Sys2Proof.Machine.execVramWr L n d s
  | .sprRamRd S n => Sys2Proof.Machine.execSprRamRd S n s
  | .sprRamWr S n d => Sys2Proof.Machine.execSprRamWr S n d s
  | .sprCtrlRd S r => Sys2Proof.Machine.execSprCtrlRd S r s
  | .sprCtrlWr S r d => Sys2Proof.Machine.execSprCtrlWr S r d s
  | .roadCollRd => Sys2Proof.Machine.execRoadCollRd s
  | .roadCollClr => Sys2Proof.Machine.execRoadCollClr s
  | .roadRegRd k => Sys2Proof.Machine.execRoadRegRd k s
  | .roadRegWr k d => Sys2Proof.Machine.execRoadRegWr k d s
  | .roadSprRd n => Sys2Proof.Machine.execRoadSprRd n s
  | .roadSprWr n d => Sys2Proof.Machine.execRoadSprWr n d s
  | .ctlPalbankRd => Sys2Proof.Machine.execCtlPalbankRd s
  | .ctlPalbankWr d => Sys2Proof.Machine.execCtlPalbankWr d s
  | .ctlScrollRd n => Sys2Proof.Machine.execCtlScrollRd n s
  | .ctlScrollWr n d => Sys2Proof.Machine.execCtlScrollWr n d s
  | .nvRd n => Sys2Proof.Machine.execNvRd n s
  | .nvWr n d => Sys2Proof.Machine.execNvWr n d s
  | .inpRd n => Sys2Proof.Machine.execInpRd n s
  | .busOor unit w => Sys2Proof.Machine.execBusOor unit w s

end Sys2Proof.Machine
end

