-- ==== Sys2Proof/Machine/Step.lean ====
section
/-!
DEFINITION. One step of the block: take the first request of the total order and execute it
(`20_memory.md` rule R88).  The block fetches nothing (R94): a program is what the bus masters and the
host present, in `State.pending` (log 7).
-/

namespace Sys2Proof.Machine

open Sys2Proof

/-- One step.  With nothing presented the block is idle (R371); an access the board map sends to plain
RAM does not reach the block (R75); every other request is decoded and executed. -/
def step (s : State) : Host.Outcome State Fault Refusal :=
  match s.pending with
  | [] => .next s
  | r :: rest =>
    match requestWord s.cfg r.what with
    | none => .next (takeRequest s r rest)
    | some tw => exec (decode tw) (takeRequest s r rest)

/-- The state in which the operation of the table word `w` of `nbits` bits is the next request,
presented with nothing beside it. -/
def State.withFetchWord (s : State) (nbits w : Nat) : State :=
  { s with
    pending :=
      ⟨.word (BitVec.ofNat 32 (w % 2 ^ nbits)), Beside.nothing⟩ :: s.pending.drop 1 }

end Sys2Proof.Machine
end

