-- ==== Sys2Proof/Safety.lean ====
section
/-!
DEFINITION. What the claims about this block speak of: the invariants of its state, what a clean
video state is, and which outcomes the spec admits.
-/

namespace Sys2Proof.Machine

open Sys2Proof

/-! ### The PPI direction masks (R23) -/

/-- A port A or B mask is all input or all output; a port C mask is so nibble by nibble. -/
abbrev Chip.masksOk (ch : Chip) : Prop :=
  (ch.ioA = 0x00 ∨ ch.ioA = 0xFF) ∧ (ch.ioB = 0x00 ∨ ch.ioB = 0xFF) ∧
    (ch.ioC = 0x00 ∨ ch.ioC = 0x0F ∨ ch.ioC = 0xF0 ∨ ch.ioC = 0xFF)

/-- The direction-mask invariant of every chip. -/
abbrev State.masksOk (s : State) : Prop := ∀ ch ∈ s.ppi, ch.masksOk

/-! ### The canonical form of memories and bitmaps -/

/-- The memory and the bitmap of a tile layer are canonical. -/
abbrev TileLayer.wf (tl : TileLayer) : Prop := tl.vram.wf ∧ tl.bitmap.wf

/-- The memory and the bitmap of a sprite layer are canonical. -/
abbrev SpriteLayer.wf (sl : SpriteLayer) : Prop := sl.ram.wf ∧ sl.bitmap.wf

/-- Every memory and every bitmap of the block is canonical. -/
abbrev State.canonical (s : State) : Prop :=
  (∀ tl ∈ s.tiles, tl.wf) ∧ s.spr0.wf ∧ s.spr1.wf ∧ s.scroll.wf ∧ s.roadspr.wf ∧ s.nvram.wf
    ∧ s.frameTop.wf ∧ s.frameBottom.wf

/-! ### Sizes (R22, R33 to R37, R44, R48) -/

/-- A tile layer has one dirty bit per byte of its video RAM and a bitmap of 8×8 cells (R34, R35). -/
abbrev TileLayer.sizedBy (tl : TileLayer) (tc : TileCfg) : Prop :=
  tl.dirty.length = tc.vramSize ∧ tl.bitmap.width = 8 * tc.cols ∧ tl.bitmap.height = 8 * tc.rows

/-- A sprite layer has one dirty bit per byte of its RAM and a bitmap of 16 columns of cells (R36,
R37). -/
abbrev SpriteLayer.sizedBy (sl : SpriteLayer) (sc : SpriteCfg) : Prop :=
  sl.dirty.length = spriteRamSize sc ∧ sl.bitmap.width = 16 * sc.cellW
    ∧ sl.bitmap.height = sc.rows * sc.cellH

/-- A frame has `FRAME_W` by `FRAME_H` pixels (R48). -/
abbrev Pixmap.sizedBy (p : Pixmap) (c : Config) : Prop := p.width = c.frameW ∧ p.height = c.frameH

/-- The chips, layers and frames have the sizes the board gives them, and the working state of a scanline
does not outlive the scanline (R44).  The sizes of tables are `State.tablesSized`. -/
abbrev State.sized (s : State) : Prop :=
  s.ppi.length = s.cfg.nchip ∧ List.Forall₂ TileLayer.sizedBy s.tiles s.cfg.tiles
    ∧ s.spr0.sizedBy s.cfg.spr0 ∧ s.spr1.sizedBy s.cfg.spr1
    ∧ s.frameTop.sizedBy s.cfg ∧ s.frameBottom.sizedBy s.cfg
    ∧ s.sprbuf = [] ∧ s.offroadDrawn = false

/-- There is one column mask per column of the sweep window (R45, R272), one RGB entry more than
`PAL_ENTRIES` (R47), and for every graphics layer a colour table of `CT_TOTAL` entries (R47). -/
abbrev State.tablesSized (s : State) : Prop :=
  s.sprxmap.length = s.cfg.road.xLast + 1 - s.cfg.road.xFirst
    ∧ s.rgbtable.length = s.cfg.pal.entries + 1
    ∧ s.colortable.map List.length = s.cfg.cts.map ColorTableCfg.total

/-! ### Dirty maps (R34, R37) -/

/-- No dirty bit of any layer is set. -/
abbrev State.clean (s : State) : Prop :=
  (∀ tl ∈ s.tiles, ∀ b ∈ tl.dirty, b = false) ∧ (∀ b ∈ s.spr0.dirty, b = false)
    ∧ ∀ b ∈ s.spr1.dirty, b = false

/-! ### Colour tables (R47, R307) -/

/-- The tables are what PAL.BUILD and PAL.CTBUILD build. -/
abbrev State.tablesBuilt (s : State) : Prop :=
  s.rgbtable = buildRgbTable s.cfg.pal ∧ s.colortable = buildColorTables s.cfg

/-! ### What the capabilities append and answer (R15, R85, R86, R343) -/

/-- The event of `ExtWrite(c, p, v)`: none where no callback is registered. -/
def callbackEvents (s : State) (c : Nat) (p : Port) (v : Byte) : List Event :=
  if (c, p) ∈ s.cfg.ppiWr then [.extWrite c p v] else []

/-- The answer of `ExtRead(c, p)`: 0 where no callback is registered. -/
def portAnswer (s : State) (c : Nat) (p : Port) : Byte :=
  if (c, p) ∈ s.cfg.ppiRd then s.answer 0 else 0x00

/-- The call of the port-read callback, where one is registered. -/
def portAsked (s : State) (c : Nat) (p : Port) : List Event :=
  if (c, p) ∈ s.cfg.ppiRd then [.extRead c p] else []

/-- The event of `SpeechLine(line, v)`. -/
def lineEvents (s : State) (line : SpeechLine) (v : Byte) : List Event :=
  if s.cfg.hasSpeechLines then [.speechLine line v] else []

/-- The event of `SoundCpuReset(b)`. -/
def resetLineEvents (s : State) (b : BitVec 1) : List Event :=
  if s.cfg.hasSndCpuReset then [.soundCpuReset b] else []

/-! ### Protection entries (R171) -/

/-- The mode part of an entry's predicate. -/
def modeHolds (e : ProtEntry) (mode : Option Byte) : Prop := ∀ ms, e.modes = some ms → mode ∈ ms

/-- Entry `e` applies to a write of offset `o`. -/
def appliesToWrite (e : ProtEntry) (o : BitVec 4) (mode : Option Byte) : Prop :=
  e.dir = .write ∧ e.o = o ∧ modeHolds e mode

/-- Entry `e` applies to a read of offset `o` by a program at `pc`. -/
def appliesToRead (e : ProtEntry) (o : BitVec 4) (mode : Option Byte) (pc : Nat) : Prop :=
  (∃ pcs, e.dir = .read pcs ∧ ∀ ranges, pcs = some ranges → ∃ r ∈ ranges, r.1 ≤ pc ∧ pc ≤ r.2)
    ∧ e.o = o ∧ modeHolds e mode

/-! ### Pixels -/

/-- The palette index `DrawTile` gives pixel (r, c) of the tile-pair (lo, hi) (R214, R216). -/
def tileColor (s : State) (tc : TileCfg) (lo hi : Byte) (r c : Nat) : Nat :=
  tilePixel s tc (tileDecode tc s.palbank lo hi) r c

/-- Where `DrawTile` puts pixel (r, c) of tile-pair t (R215, R216). -/
def tileTarget (s : State) (tc : TileCfg) (lo hi : Byte) (t r c : Nat) : Nat × Nat :=
  ((tilePos tc t).1 + (if (tileDecode tc s.palbank lo hi).flip then 7 - c else c),
   (tilePos tc t).2 + r)

/-- The coherence invariant of R223: the cell of every clean tile-pair shows what `DrawTile` would draw
from the current video RAM and palette bank. -/
def State.coherent (s : State) : Prop :=
  ∀ (L : Nat) (tc : TileCfg) (tl : TileLayer), s.cfg.tiles[L]? = some tc → s.tiles[L]? = some tl →
    ∀ t < tc.vramSize / 2, dirtyBit tl.dirty (2 * t) = false → dirtyBit tl.dirty (2 * t + 1) = false →
      ∀ r < 8, ∀ c < 8,
        let lo := tl.vram.read (2 * t)
        let hi := tl.vram.read (2 * t + 1)
        tl.bitmap.get (tileTarget s tc lo hi t r c).1 (tileTarget s tc lo hi t r c).2
          = tileColor s tc lo hi r c

/-- The bitmap pixel of tile layer L that the tile composite shows at frame pixel (dx, dy), where it
shows one (R325). -/
def shownAt (s : State) (L : Nat) (tc : TileCfg) (dx dy : Nat) : Option (Nat × Nat) :=
  let bw : Int := (8 * tc.cols : Nat)
  let bh : Int := (8 * tc.rows : Nat)
  let bx : Int := dx - tc.orgX
  let by' : Int := dy - tc.orgY
  if 0 ≤ by' ∧ by' < bh then
    let r := by'.toNat / 8
    let off : Int :=
      ((s.scroll.read (2 * r)).toNat ||| ((s.scroll.read (2 * r + 1) &&& 1).toNat <<< 8) : Nat)
    let dir : Int := if s.cfg.scrollNegative then -1 else 1
    let bx' := if L = s.cfg.scrollLayer ∧ 0 < s.cfg.scrollRows then (bx + dir * off) % bw else bx
    if 0 ≤ bx' ∧ bx' < bw then some (bx'.toNat, by'.toNat) else none
  else none

/-- Whether frame pixel (x, y) lies in the visible rectangle of a monitor. -/
def inVis (s : State) (m : Monitor) (x y : Nat) : Prop :=
  (s.vis m).x ≤ x ∧ x < (s.vis m).x + (s.vis m).w ∧ (s.vis m).y ≤ y ∧ y < (s.vis m).y + (s.vis m).h

/-! ### Scanlines -/

/-- Whether the surface of pixel `x + i` of a scanline is off-road (R265 to R268). -/
def offRoadAt (s : State) (va x i : Nat) : Bool :=
  acciarOf s.cfg.road
    (romByte s.cfg.road.roaden (areaIndex s.cfg.road (carrySelect s x).1 va x i))

/-- The first column of the chunk that pixel column `px` belongs to: the x of R262. -/
def chunkOf (c : RoadCfg) (px : Nat) : Nat := px - (px - c.xFirst) % 8

/-- The sweep reaches column `px`: its chunk starts in the window (R262).  On a checked board these are
the columns of the window. -/
def swept (c : RoadCfg) (px : Nat) : Bool := c.xFirst ≤ px && chunkOf c px ≤ c.xLast

/-- The vertical address of scanline y (R263). -/
def lineAddress (s : State) (y : Nat) : Nat :=
  if s.roadctl.getLsbD 7 = s.cfg.road.invertWhen then 255 - (y + s.opa.toNat) % 256
  else (y + s.opa.toNat) % 256

/-- Whether the adder's carry at the chunk of `px` picks `ipb` and the upper nibble of `ipc` (R264). -/
def picksB (s : State) (px : Nat) : Bool :=
  ((chunkOf s.cfg.road px + s.opb.toNat).testBit 8) = s.cfg.road.carryPicksB

/-- The selector register at column `px` (R264). -/
def lineSelector (s : State) (px : Nat) : Byte := if picksB s px then s.ipb else s.ipa

/-- The colour nibble at column `px` (R264). -/
def lineColor (s : State) (px : Nat) : Nat :=
  if picksB s px then s.ipc.toNat / 16 else s.ipc.toNat % 16

/-- The area bit that table `rom` gives at column `px`: bit 8 of its byte plus the column (R265). -/
def lineAreaBit (s : State) (y px : Nat) (rom : Rom Byte) (half : NibbleHalf) : Bool :=
  let sel := (lineSelector s px).toNat
  let nib := if half = .lo then sel % 16 else sel / 16
  ((romByte rom (256 * nib + lineAddress s y)).toNat + px).testBit 8

/-- The fifth area bit at column `px` (R266). -/
def lineAreaBit5 (s : State) (px : Nat) : Bool :=
  let c := s.cfg.road
  romByte c.rom5 (openIndex c.area5Index c.rom5.size Config.freeArea5Index px) &&& c.area5Mask ≠ 0

/-- The area index at column `px` (R266). -/
def lineArea (s : State) (y px : Nat) : Nat :=
  let c := s.cfg.road
  (lineAreaBit s y px c.rom1 c.nib1).toNat + 2 * (lineAreaBit s y px c.rom2 c.nib2).toNat
    + 4 * (lineAreaBit s y px c.rom3 c.nib3).toNat + 8 * (lineAreaBit s y px c.rom4 c.nib4).toNat
    + 16 * (lineAreaBit5 s px).toNat

/-- The road enable/collision entry of column `px` (R267). -/
def lineEntry (s : State) (y px : Nat) : Byte := romByte s.cfg.road.roaden (lineArea s y px)

/-- Column `px` is off-road (R268). -/
def lineOffRoad (s : State) (y px : Nat) : Bool := (lineEntry s y px).getLsbD s.cfg.road.acciarBit

/-- The sprite buffer after the road group, drawn into an empty one (R261, R271, R273). -/
def roadGroupBuffer (s : State) (y : Nat) : List Nat :=
  let c := s.cfg.road
  (groupSlots c false).foldl (drawSlot s y) (List.replicate (c.xLast + 1 - c.xFirst) c.sprEmpty)

/-- What column `px` finds in the sprite buffer: the road group's sprites and, from the first off-road
column on, the off-road group's over them (R268, R271). -/
def lineSprite (s : State) (y px : Nat) : Nat :=
  let c := s.cfg.road
  let crossed := (List.range (px + 1)).any fun x => swept c x && lineOffRoad s y x
  bufferAt c
    (if crossed then (groupSlots c true).foldl (drawSlot s y) (roadGroupBuffer s y)
     else roadGroupBuffer s y) px

/-- The sprite priority at column `px` (R269). -/
def linePriority (s : State) (y px : Nat) : Nibble :=
  let c := s.cfg.road
  (romByte c.sprpri
    (openIndex c.sprPriIndex c.sprpri.size Config.freeSprPriIndex (lineSprite s y px))).setWidth 4

/-- The bits column `px` ORs into the accumulator (R269). -/
def lineCollision (s : State) (y px : Nat) : Nibble :=
  linePriority s y px &&&
    openAt s.cfg.road.collMask Config.freeCollMask
      ((lineEntry s y px).getLsbD s.cfg.road.sliparBit, lineOffRoad s y px)

/-- The palette index the full pass writes at column `px` of scanline y over the pixel `under` (R270). -/
def linePixel (s : State) (y px under : Nat) : Nat :=
  let c := s.cfg.road
  let babit := (lineEntry s y px).toNat / 2 ^ c.babitShift % 8
  let bg := romByte c.bgpal
    (openIndex c.bgIndex c.bgpal.size Config.freeBgIndex (y, px, under))
  let road := romByte c.roadpal
    (openIndex c.roadPalIndex c.roadpal.size Config.freeRoadPalIndex (babit, lineColor s px, px))
  let mux := romByte c.overall
    (openIndex c.overallIndex c.overall.size Config.freeOverallIndex
      ((linePriority s y px).toNat, babit, lineSprite s y px))
  openIndex c.channelCombine s.cfg.pal.entries Config.freeChannelCombine
    (mux.toNat, lineSprite s y px, road.toNat, bg.toNat, under)

/-! ### Sprite rows of the road unit -/

/-- `SrcPos(P, n)` (R275). -/
def srcPos (c : RoadCfg) (P : SpriteParam) : Nat → Nat
  | 0 => 0
  | n + 1 => srcPos c P n + srcStep c P n

/-- No column before n has met the sentinel (R275, R276). -/
def rowReaches (c : RoadCfg) (P : SpriteParam) (base : Nat) (n : Nat) : Prop :=
  ∀ m < n, rowWord c (base + srcPos c P m) ≠ 0x12345678

/-- The row of record P on scanline y: the data hold the sentinel at or after its start, and no column it
draws reads outside them (R346, R349). -/
def rowFits (c : RoadCfg) (P : SpriteParam) (y : Nat) : Prop :=
  (∃ k, k < c.rowData.size ∧ rowBase c P y ≤ k ∧ rowWord c k = 0x12345678) ∧
  ∀ n : Nat, P.xoffset + n ≤ c.xLast → rowReaches c P (rowBase c P y) n →
    inRowData c (rowBase c P y + srcPos c P n)

/-! ### The configuration check, row by row (R346) -/

/-- A table with `size` entries does not cover an OPEN index function. -/
def overruns {α : Type} [DecidableEq α] (f : OpenFn α Nat) (size : Nat) (free : α → Nat) : Prop :=
  ∃ a, size ≤ openIndex f size free a

/-- The entries of colour table g, 0 where the layer does not exist. -/
def ctEntries (c : Config) (g : Nat) : Nat := (c.cts[g]?.map ColorTableCfg.total).getD 0

/-- A visible rectangle that leaves the frame, a rectangle of no pixels by its corner and size too
(log 37). -/
def leavesFrame (c : Config) (r : Rect) : Prop := c.frameW < r.x + r.w ∨ c.frameH < r.y + r.h

/-- The graphics of a sprite layer do not cover its codes, or hold a pixel that is none. -/
def sprGfxFails (sc : SpriteCfg) : Prop :=
  sc.rows ≠ 0 ∧ (sc.gfx.size < sc.cellW * sc.cellH * (256 + 256 * sc.codeMask.toNat)
    ∨ ∃ i < sc.gfx.size, sc.pixvals ≤ romPixel sc.gfx i)

/-- The colour table of a sprite layer does not cover its raw values. -/
def sprColorTableFails (c : Config) (sc : SpriteCfg) : Prop :=
  sc.rows ≠ 0 ∧
    ctEntries c sc.ctLayer < (sc.colorMask.toNat + sc.bankStride) * sc.pixvals + sc.pixvals

/-- Board `c` does not meet the row of R346's table for the table or parameter named, as this model
reads the row (log 12, log 22, log 25, log 28). -/
def tableFails (c : Config) : TableName → Prop
  | .nchip => 4 < c.nchip
  | .vramSize L => ∃ tc, c.tiles[L]? = some tc ∧
      (tc.vramSize % 2 = 1 ∨ (tc.pos = none ∧ tc.vramSize ≠ 2 * tc.cols * tc.rows))
  | .tilePos L => ∃ tc table, c.tiles[L]? = some tc ∧ tc.pos = some table ∧
      ((∃ t < tc.vramSize / 2, ∀ xy, table[t]? = some xy →
          8 * tc.cols < xy.1 + 8 ∨ 8 * tc.rows < xy.2 + 8) ∨
        ∃ t u a b, t < u ∧ u < tc.vramSize / 2 ∧ table[t]? = some a ∧ table[u]? = some b ∧
          a.1 < b.1 + 8 ∧ b.1 < a.1 + 8 ∧ a.2 < b.2 + 8 ∧ b.2 < a.2 + 8)
  | .tileGfx L => ∃ tc, c.tiles[L]? = some tc ∧
      (tc.gfx.size < 64 * (256 + 256 * tc.codeMask.toNat)
        ∨ ∃ i < tc.gfx.size, tc.pixvals ≤ romPixel tc.gfx i)
  | .tileColorTable L => ∃ tc, c.tiles[L]? = some tc ∧
      ctEntries c tc.ctLayer < (tc.colorMask.toNat + tc.bankStride) * tc.pixvals + tc.pixvals
  | .sprGfx S => (S = 0 ∧ sprGfxFails c.spr0) ∨ (S = 1 ∧ sprGfxFails c.spr1)
  | .sprColorTable S =>
      (S = 0 ∧ sprColorTableFails c c.spr0) ∨ (S = 1 ∧ sprColorTableFails c c.spr1)
  | .colorProm => ∃ e < c.pal.entries, ∃ ch : Channel,
      ∃ place ∈ nibblePlaces (openAt c.pal.nibble (freeNibble c.pal) (e, ch)),
        c.pal.colorProm.size ≤ place / 8
  | .ctRange g => ∃ ct, c.cts[g]? = some ct ∧ ∃ v < ct.total,
      v % (ct.period : Nat) ∉ ct.residues ∧
        (ct.total ≤ v ^^^ ct.xorMask ∨ c.pal.entries ≤ ct.base + (v ^^^ ct.xorMask))
  | .transparentRgb => ∃ nr ng nb : Nibble,
      c.pal.transparentRGB = ⟨weight c.pal nr, weight c.pal ng, weight c.pal nb⟩
  | .roadRom1 => c.roadBoard = true ∧ c.road.rom1.size < 4096
  | .roadRom2 => c.roadBoard = true ∧ c.road.rom2.size < 4096
  | .roadRom3 => c.roadBoard = true ∧ c.road.rom3.size < 4096
  | .roadRom4 => c.roadBoard = true ∧ c.road.rom4.size < 4096
  | .roadRom5 => c.roadBoard = true ∧ ∃ px, c.road.xFirst ≤ px ∧ px ≤ c.road.xLast ∧
      c.road.rom5.size ≤ openIndex c.road.area5Index c.road.rom5.size Config.freeArea5Index px
  | .roadEn => c.roadBoard = true ∧ c.road.roaden.size < 32
  | .sprPri => c.roadBoard = true ∧
      overruns c.road.sprPriIndex c.road.sprpri.size Config.freeSprPriIndex
  | .overall => c.roadBoard = true ∧
      overruns c.road.overallIndex c.road.overall.size Config.freeOverallIndex
  | .bgPal => c.roadBoard = true ∧ overruns c.road.bgIndex c.road.bgpal.size Config.freeBgIndex
  | .roadPal => c.roadBoard = true ∧
      overruns c.road.roadPalIndex c.road.roadpal.size Config.freeRoadPalIndex
  | .channelCombine => c.roadBoard = true ∧
      overruns c.road.channelCombine c.pal.entries Config.freeChannelCombine
  | .spriteRowData => c.roadBoard = true ∧
      (overruns c.road.paramDecode c.road.paramImage.length Config.freeParamDecode ∨
        ∃ P ∈ c.road.paramImage, ∃ y, c.road.yFirst ≤ y ∧ y ≤ c.road.yLast ∧ P.miny ≤ y ∧
          y < P.maxy ∧ ¬rowFits c.road P y)
  | .sweepWindow =>
      (c.roadBoard = true ∧ (¬(8 : Int) ∣ c.road.xLast - c.road.xFirst + 1 ∨
        c.frameW ≤ c.road.xFirst ∨ c.frameW ≤ c.road.xLast ∨
        c.frameH ≤ c.road.yFirst ∨ c.frameH ≤ c.road.yLast)) ∨
      leavesFrame c c.visTop ∨ leavesFrame c c.visBottom
  | .scrollRows => c.scrollRows ≠ 0 ∧
      (128 < c.scrollRows ∨ ∃ tc, c.tiles[c.scrollLayer]? = some tc ∧ c.scrollRows < tc.rows)
  | .roadSprSize => 4096 < c.road.sprSize
  | .protTable => ∃ e ∈ c.prot, e.o = 13 ∨ appliesToWrite e 5 none ∨
      (∃ pc, appliesToRead e 5 none pc) ∨ ∃ a, e.action = .passThrough a ∧ c.mainMemSize ≤ a

/-! ### A frame as its steps -/

/-- Operations in a row, up to the first that stops. -/
def runAll (ops : List Instr) (s : State) : Result :=
  ops.foldl (fun r i => match r with | .next t => exec i t | stop => stop) (.next s)

/-- The road pass in order: ROAD.PARAMS, then ROAD.LINE on every visible scanline, minimal or full; no
step on a tile board (R322, R323). -/
def roadSteps (minimal : BitVec 1) (c : Config) : List Instr :=
  if c.roadBoard then
    .roadParams ::
      (List.range' c.road.yFirst (c.road.yLast + 1 - c.road.yFirst)).map fun y =>
        .roadLine minimal (BitVec.ofNat 8 y)
  else []

/-- The steps SEQ.FRAME names before the presentation, in order (R322). -/
def frameSteps (c : Config) : List Instr :=
  (List.range c.tiles.length).map (fun L => .tileRender (BitVec.ofNat 3 L)) ++
  [.sprRefresh 0, .sprRefresh 1, .seqScrollComp, .sprComposite0, .sprComposite1] ++ roadSteps 0 c

/-- The state with every dirty bit of every layer set: what `fullRefresh` does first (R322). -/
def allDirty (s : State) : State :=
  { s with
    tiles := s.tiles.map fun tl => { tl with dirty := List.replicate tl.dirty.length true }
    spr0 := { s.spr0 with dirty := List.replicate s.spr0.dirty.length true }
    spr1 := { s.spr1 with dirty := List.replicate s.spr1.dirty.length true } }

/-! ### Outcomes -/

/-- The outcomes the spec admits of operation `i` (R97, R346, R348): a next state; for SEQ.RESET the
named configuration error; for PPI.INIT above four chips the refusal of R143. -/
def admitted (i : Instr) (o : Result) : Prop :=
  match o with
  | .next _ => True
  | .fault _ => i = .seqReset
  | .refused r => ∃ n : Byte, i = .ppiInit n ∧ 4 < n.toNat ∧ r = .chipCountAboveFour

end Sys2Proof.Machine
end

