-- ==== Sys2Proof/Certificates/Slice0/Obligations.lean ====
section
/-!
DEFINITION. The statements about the block.  Each docstring names the rules of the spec it formalises,
or says what it is the model's own choice of.
-/

open Sys2Proof Sys2Proof.Machine

/-! ### Encoding (R100 to R112, R130) -/

/-- Decoding the word of a well-formed operation gives the operation back, every operand at every
value (R100 to R112).  Which word stands for BUS.OOR is the model's choice (log 21). -/
def Obligations.DecodeEncode : Prop :=
  ∀ i : Instr, i.wellFormed = true → decode (encode i) = i

/-- The decoder answers, for every one of the 2^32 words, the operation of the first row of the opcode
table that takes the word (R102). -/
def Obligations.DecodeFollowsTheOpcodeTable : Prop :=
  ∀ tw : TW, ∃ r, (opcodeTable.find? fun r => rowTakes r tw) = some r ∧
    r.mnemonic = (decode tw).mnemonic

/-- Words written out from the spec's encodings decode to the operations they stand for (R103 to
R112). -/
def Obligations.DecodesWrittenOutWords : Prop :=
  decode 0x08000101 = .seqFrame 1 ∧ decode 0x09060120 = .roadLine 1 0x20 ∧
  decode 0x1A00039B = .ppiWrMode 2 0 1 1 0 1 1 ∧ decode 0x1A00037B = .ppiWrBsr 2 7 5 1 ∧
  decode 0x28000D4E = .protWr13 0x4E ∧ decode 0x31000000 = .sndLatchRd 1 ∧
  decode 0x48FFFF01 = .vramWr 0 0xFFFF 0x01 ∧ decode 0x58800040 = .sprCtrlWr 0 0 0x40 ∧
  decode 0x6810007F = .roadSprWr 0 0x7F ∧ decode 0x78010034 = .ctlScrollWr 0 0x34 ∧
  decode 0x88001099 = .nvWr 0x10 0x99 ∧ decode 0x90000100 = .inpRd 1 ∧
  decode 0xFFFFFFFF = .busOor 15 1

/-- A step takes the first request and runs the operation its word decodes to, with what travelled
beside it in force; a CPU access goes through the board map, and one the map sends to plain RAM
changes no state of the block; an access of the sound CPU is a read or a write of a sound latch, or
plain RAM.  What the map gives: for the main CPU the first entry of the bus map with that address, else the
lowest of the sixteen protection offsets on that port, else plain RAM; for the sound CPU the latch that the first entry of
its own map with that address names, else plain RAM (R73, R75, R76, R88, R120, R180).  That requests stand in a
list, the request counter, who presents words, the order within and between the maps, a board map without
direction and without a bit position, and the sound CPU kept from the collision accumulator, which R43 and
R90 call shared, are the model's choice (log 6, log 7, log 9, log 24, log 29). -/
def Obligations.StepRunsTheDecodedOperation : Prop :=
  ∀ (s : State) (r : Request) (rest : List Request), s.pending = r :: rest →
    let s' : State := { s with pending := rest, inputs := r.beside, clock := s.clock + 1 }
    (∀ (tw : TW) (i : Instr), r.what = .word tw → decode tw = i → step s = exec i s') ∧
    (∀ (agent : Agent) (a : BusAddress) (write : Bool) (d : Byte), r.what = .access agent a write d →
      (∀ u inst sel, busTarget s.cfg agent a = some (u, inst, sel) →
        step s = exec (decode (packTW u (if write then 1 else 0) inst sel d)) s') ∧
      (busTarget s.cfg agent a = none → step s = .next s') ∧
      (agent = .soundCpu → step s = .next s' ∨
        ∃ latch : BitVec 1,
          step s = exec (if write then .sndLatchWr latch d else .sndLatchRd latch) s')) ∧
    (∀ (a : BusAddress) (write : Bool) (d : Byte), r.what = .access .mainCpu a write d →
      let reach (u : BitVec 4) (inst : BitVec 3) (sel : BitVec 16) : Prop :=
        step s = exec (decode (packTW u (if write then 1 else 0) inst sel d)) s'
      (∀ pre e post, s.cfg.busmap = pre ++ e :: post → (∀ x ∈ pre, x.address ≠ a) → e.address = a →
        reach e.unit e.inst e.sel) ∧
      ((∀ x ∈ s.cfg.busmap, x.address ≠ a) →
        (∀ n : Fin 16, a = .ioPort s.cfg.protPort[n] →
          (∀ m < n, s.cfg.protPort[m] ≠ s.cfg.protPort[n]) → reach 2 0 (BitVec.ofNat 16 n.val)) ∧
        ((∀ n : Fin 16, a ≠ .ioPort s.cfg.protPort[n]) → step s = .next s'))) ∧
    (∀ (a : BusAddress) (write : Bool) (d : Byte), r.what = .access .soundCpu a write d →
      (∀ pre e post, s.cfg.soundBus = pre ++ e :: post → (∀ x ∈ pre, x.address ≠ a) →
        e.address = a →
        step s = exec (if write then .sndLatchWr e.latch d else .sndLatchRd e.latch) s') ∧
      ((∀ x ∈ s.cfg.soundBus, x.address ≠ a) → step s = .next s'))

/-! ### PPI chips (R140 to R157) -/

/-- PPI.WR.A, .B and .C on a chip that exists: the byte goes to the port's latch, then the callback
sees the latch on outputs and 1 on inputs; nothing else changes (R141, R148, R149, R150). -/
def Obligations.PpiDataWrites : Prop :=
  ∀ (s : State) (c : BitVec 3) (d : Byte) (ch : Chip),
    c.toNat < s.cfg.nchip → s.ppi[c.toNat]? = some ch →
    exec (.ppiWrA c d) s = .next { s with
      ppi := s.ppi.set c.toNat { ch with latchA := d }
      trace := s.trace ++ callbackEvents s c.toNat .a ((d &&& ~~~ch.ioA) ||| (0xFF &&& ch.ioA)) } ∧
    exec (.ppiWrB c d) s = .next { s with
      ppi := s.ppi.set c.toNat { ch with latchB := d }
      trace := s.trace ++ callbackEvents s c.toNat .b ((d &&& ~~~ch.ioB) ||| (0xFF &&& ch.ioB)) } ∧
    exec (.ppiWrC c d) s = .next { s with
      ppi := s.ppi.set c.toNat { ch with latchC := d }
      trace := s.trace ++ callbackEvents s c.toNat .c ((d &&& ~~~ch.ioC) ||| (0xFF &&& ch.ioC)) }

/-- PPI.RD.A and PPI.RD.B on a chip that exists: an output port returns its latch and calls nobody; any
other returns the callback's answer, 0 where there is none; no state changes (R144, R145). -/
def Obligations.PpiReadsOfPortsAAndB : Prop :=
  ∀ (s : State) (c : BitVec 3) (ch : Chip),
    c.toNat < s.cfg.nchip → s.ppi[c.toNat]? = some ch →
    (ch.ioA = 0x00 →
      exec (.ppiRdA c) s = .next { s with trace := s.trace ++ [.busReturn ch.latchA] }) ∧
    (ch.ioA ≠ 0x00 → exec (.ppiRdA c) s = .next { s with
      trace := s.trace ++ portAsked s c.toNat .a ++ [.busReturn (portAnswer s c.toNat .a)] }) ∧
    (ch.ioB = 0x00 →
      exec (.ppiRdB c) s = .next { s with trace := s.trace ++ [.busReturn ch.latchB] }) ∧
    (ch.ioB ≠ 0x00 → exec (.ppiRdB c) s = .next { s with
      trace := s.trace ++ portAsked s c.toNat .b ++ [.busReturn (portAnswer s c.toNat .b)] })

/-- PPI.RD.C mixes latch and callback bit by bit and calls the callback on every read; PPI.RD.CTRL
returns 0xFF whatever the chip holds (R146, R147). -/
def Obligations.PpiReadsOfPortCAndControl : Prop :=
  ∀ (s : State) (c : BitVec 3) (ch : Chip),
    c.toNat < s.cfg.nchip → s.ppi[c.toNat]? = some ch →
    exec (.ppiRdC c) s = .next { s with
      trace := s.trace ++ portAsked s c.toNat .c ++
        [.busReturn ((ch.latchC &&& ~~~ch.ioC) ||| (portAnswer s c.toNat .c &&& ch.ioC))] } ∧
    exec (.ppiRdCtrl c) s = .next { s with trace := s.trace ++ [.busReturn 0xFF] }

/-- PPI.WR.MODE: control byte, group modes, direction masks from bits 4, 1, 3 and 0, latches zeroed,
then the three callbacks in order A, B, C, each seeing its new direction mask (R116, R151). -/
def Obligations.PpiModeSet : Prop :=
  ∀ (s : State) (c : BitVec 3) (ch : Chip) (ga : BitVec 2) (da dcu gb db dcl : BitVec 1),
    c.toNat < s.cfg.nchip → s.ppi[c.toNat]? = some ch →
    let ioA : Byte := if da = 1 then 0xFF else 0x00
    let ioB : Byte := if db = 1 then 0xFF else 0x00
    let ioC : Byte := (if dcu = 1 then 0xF0 else 0x00) ||| (if dcl = 1 then 0x0F else 0x00)
    exec (.ppiWrMode c ga da dcu gb db dcl) s = .next { s with
      ppi := s.ppi.set c.toNat
        { groupA := ga, groupB := gb, ioA := ioA, ioB := ioB, ioC := ioC, latchA := 0x00,
          latchB := 0x00, latchC := 0x00, control := 1#1 ++ ga ++ da ++ dcu ++ gb ++ db ++ dcl }
      trace := s.trace ++ callbackEvents s c.toNat .a ioA ++ callbackEvents s c.toNat .b ioB ++
        callbackEvents s c.toNat .c ioC }

/-- PPI.WR.BSR: the control byte is stored whole, bit n of port C's latch takes s and no other latch
bit changes, and port C's callback sees the result; bits 6:4 have no other effect (R117, R152). -/
def Obligations.PpiBitSetReset : Prop :=
  ∀ (s : State) (c : BitVec 3) (ch : Chip) (x n : BitVec 3) (b : BitVec 1),
    c.toNat < s.cfg.nchip → s.ppi[c.toNat]? = some ch →
    ∃ latch : Byte,
      (∀ k < 8, latch.getLsbD k = if k = n.toNat then b = 1 else ch.latchC.getLsbD k) ∧
      exec (.ppiWrBsr c x n b) s = .next { s with
        ppi := s.ppi.set c.toNat { ch with latchC := latch, control := 0#1 ++ x ++ n ++ b }
        trace := s.trace ++
          callbackEvents s c.toNat .c ((latch &&& ~~~ch.ioC) ||| (0xFF &&& ch.ioC)) }

/-- A chip index at or beyond `NCHIP`: every read returns 0, every write does nothing, no callback is
invoked (R142, R153). -/
def Obligations.PpiOutOfRange : Prop :=
  ∀ (s : State) (c : BitVec 3), s.cfg.nchip ≤ c.toNat →
    (∀ i ∈ [Instr.ppiRdA c, .ppiRdB c, .ppiRdC c, .ppiRdCtrl c],
      exec i s = .next { s with trace := s.trace ++ [.busReturn 0x00] }) ∧
    (∀ d : Byte, ∀ i ∈ [Instr.ppiWrA c d, .ppiWrB c d, .ppiWrC c d], exec i s = .next s) ∧
    (∀ ga da dcu gb db dcl, exec (.ppiWrMode c ga da dcu gb db dcl) s = .next s) ∧
    (∀ x n b, exec (.ppiWrBsr c x n b) s = .next s)

/-- PPI.INIT with a count of at most 4 puts every chip below the count into the initial state and
leaves the others, invoking no callback; with a count above 4 it is refused (R27, R143).  That a
count other than `NCHIP` follows the pseudocode is the model's choice (log 10). -/
def Obligations.PpiInit : Prop :=
  ∀ (s : State) (n : Byte),
    (n.toNat ≤ 4 → ∃ bank, exec (.ppiInit n) s = .next { s with ppi := bank } ∧
      ∀ c : Nat, bank[c]? = s.ppi[c]?.map fun ch =>
        if c < n.toNat then
          { groupA := 0, groupB := 0, ioA := 0xFF, ioB := 0xFF, ioC := 0xFF, latchA := 0x00,
            latchB := 0x00, latchC := 0x00, control := 0x1B }
        else ch) ∧
    (4 < n.toNat → exec (.ppiInit n) s = .refused .chipCountAboveFour)

/-- Every step keeps the direction-mask invariant (R23, R155(d)). -/
def Obligations.StepKeepsDirectionMasks : Prop :=
  ∀ s t : State, s.masksOk → step s = .next t → t.masksOk

/-- A step only appends to the trace, and every byte it hands to a port-write callback has 1 in every
bit that the chip then has as an input (R86, R141, R155(e)). -/
def Obligations.CallbacksSeeOnesOnInputs : Prop :=
  ∀ s t : State, step s = .next t → ∃ new, t.trace = s.trace ++ new ∧
    ∀ (c : Nat) (p : Port) (v : Byte), Event.extWrite c p v ∈ new →
      ∃ ch, t.ppi[c]? = some ch ∧ v &&& ch.io p = ch.io p

/-! ### Protection decoder (R170 to R182) -/

/-- PROT.WR13 latches the mode and does nothing else; PROT.RD13 returns the latched mode, before any
write the board's byte where it fixes one and some byte otherwise, the same at every such read; neither
changes anything else (R173, R174).  The two clauses on a read before any write are the model's choice
(log 15, DESIGN CHOICE): U5 leaves that byte to a draw that a board may fix, and R82, which the spec derives,
says that repeated reads agree. -/
def Obligations.ProtModeLatch : Prop :=
  ∀ s : State,
    (∀ d : Byte, exec (.protWr13 d) s = .next { s with modeSelector := some d }) ∧
    (∀ m, s.modeSelector = some m →
      exec .protRd13 s = .next { s with trace := s.trace ++ [.busReturn m] }) ∧
    (∀ v, s.modeSelector = none → s.cfg.protUnsetRead13 = some v →
      exec .protRd13 s = .next { s with trace := s.trace ++ [.busReturn v] }) ∧
    (s.modeSelector = none → s.cfg.protUnsetRead13 = none →
      ∃ v, ∀ (pending : List Request) (inputs : Beside) (trace : List Event) (clock : Nat),
        let t : State :=
          { s with pending := pending, inputs := inputs, trace := trace, clock := clock }
        exec .protRd13 t = .next { t with trace := trace ++ [.busReturn v] })

/-- PROT.WR performs the action of the first entry of the table, in list order, that applies, and the
unmasked scratch write where none applies (R171, R172, R175, R177). -/
def Obligations.ProtWritePerformsTheFirstEntry : Prop :=
  ∀ (s : State) (o : BitVec 4) (d : Byte),
    (∀ pre e post, s.cfg.prot = pre ++ e :: post → (∀ x ∈ pre, ¬appliesToWrite x o s.modeSelector) →
      appliesToWrite e o s.modeSelector →
      (∀ a, e.action = .passThrough a → exec (.protWr o d) s = .next { s with
        trace := s.trace ++ if s.cfg.hasMainMemWrite then [.mainMemWrite a d] else [] }) ∧
      (e.action = .scratch none →
        exec (.protWr o d) s = .next { s with registers := s.registers.set o.toNat d }) ∧
      (∀ m, e.action = .scratch (some m) →
        exec (.protWr o d) s = .next { s with registers := s.registers.set o.toNat (d &&& m) }) ∧
      (∀ v, e.action = .constant v → exec (.protWr o d) s = .next s)) ∧
    ((∀ x ∈ s.cfg.prot, ¬appliesToWrite x o s.modeSelector) →
      exec (.protWr o d) s = .next { s with registers := s.registers.set o.toNat d })

/-- PROT.RD returns what the first entry of the table that applies gives, and the scratch register where
none applies; it changes no state (R171, R172, R176, R177). -/
def Obligations.ProtReadPerformsTheFirstEntry : Prop :=
  ∀ (s : State) (o : BitVec 4),
    (∀ pre e post, s.cfg.prot = pre ++ e :: post →
      (∀ x ∈ pre, ¬appliesToRead x o s.modeSelector s.mainPC) →
      appliesToRead e o s.modeSelector s.mainPC →
      (∀ a, e.action = .passThrough a → exec (.protRd o) s = .next { s with
        trace := s.trace ++
          if s.cfg.hasMainMemRead then [.mainMemRead a, .busReturn (s.answer 0)]
          else [.busReturn 0x00] }) ∧
      (e.action = .scratch none → exec (.protRd o) s = .next { s with
        trace := s.trace ++ [.busReturn s.registers[o.toNat]] }) ∧
      (∀ m, e.action = .scratch (some m) → exec (.protRd o) s = .next { s with
        trace := s.trace ++ [.busReturn (s.registers[o.toNat] &&& m)] }) ∧
      (∀ v, e.action = .constant v →
        exec (.protRd o) s = .next { s with trace := s.trace ++ [.busReturn v] })) ∧
    ((∀ x ∈ s.cfg.prot, ¬appliesToRead x o s.modeSelector s.mainPC) →
      exec (.protRd o) s = .next { s with
        trace := s.trace ++ [.busReturn s.registers[o.toNat]] })

/-- P5 and the default round trip: after PROT.WR13 a read of offset 13 returns the byte written; with the
empty table a read of any offset after PROT.WR returns the byte written there, and any other offset
reads as before (R174, R182(a), R182(b)). -/
def Obligations.ProtRoundTrips : Prop :=
  ∀ (s : State) (d : Byte),
    (∃ t, exec (.protWr13 d) s = .next t ∧
      exec .protRd13 t = .next { t with trace := t.trace ++ [.busReturn d] }) ∧
    (s.cfg.prot = [] → ∀ o o' : BitVec 4, ∃ t, exec (.protWr o d) s = .next t ∧
      exec (.protRd o') t = .next { t with
        trace := t.trace ++ [.busReturn (if o' = o then d else s.registers[o'.toNat])] })

/-! ### Sound bridge and input ports (R190 to R201) -/

/-- SND.LATCH.WR writes its latch alone; SND.LATCH.RD returns it and changes nothing (R192, R193). -/
def Obligations.SoundLatches : Prop :=
  ∀ (s : State) (d : Byte),
    exec (.sndLatchWr 0 d) s = .next { s with soundlatch := d } ∧
    exec (.sndLatchWr 1 d) s = .next { s with soundlatch2 := d } ∧
    exec (.sndLatchRd 0) s = .next { s with trace := s.trace ++ [.busReturn s.soundlatch] } ∧
    exec (.sndLatchRd 1) s = .next { s with trace := s.trace ++ [.busReturn s.soundlatch2] }

/-- The speech setters record the level and drive the line; a speech data write is handed on and not
kept; SND.CPURESET.WR records and drives the level its predicate gives (R194 to R197, R199). -/
def Obligations.SpeechAndResetLines : Prop :=
  ∀ (s : State) (b : BitVec 1) (d : Byte),
    exec (.sndSpeechResetWr b) s = .next { s with
      speechReset := b, trace := s.trace ++ lineEvents s .reset (b.setWidth 8) } ∧
    exec (.sndSpeechStartWr b) s = .next { s with
      speechStart := b, trace := s.trace ++ lineEvents s .start (b.setWidth 8) } ∧
    exec (.sndSpeechVcuWr b) s = .next { s with
      speechVcu := b, trace := s.trace ++ lineEvents s .vcu (b.setWidth 8) } ∧
    exec (.sndSpeechDataWr d) s = .next { s with trace := s.trace ++ lineEvents s .data d } ∧
    ∀ v : Bool, openAt s.cfg.sndCpuResetAssert Config.freeSndCpuResetAssert d = v →
      exec (.sndCpuResetWr d) s = .next { s with
        sndCpuReset := if v then 1 else 0
        trace := s.trace ++ resetLineEvents s (if v then 1 else 0) }

/-- INP.RD: out of range 0 and nobody is asked; the host's byte unchanged on an ordinary port; on the
status port the busy line in place of the masked bits, inverted (R198).  An absent input reader answers 0
(R343).  That the busy line is bit 0 of the host's second answer is the model's choice (log 6), and that
an absent busy line answers 0 is its own default (log 23): R343 does not name the busy line. -/
def Obligations.InputPortRead : Prop :=
  ∀ (s : State) (i : BitVec 16),
    let v : Byte := if s.cfg.hasInputReader then s.answer 0 else 0x00
    let asked : List Event := if s.cfg.hasInputReader then [.inputPort i.toNat] else []
    let busy : Bool := s.cfg.hasSpeechBusy && (s.answer 1).getLsbD 0
    let askedBusy : List Event := if s.cfg.hasSpeechBusy then [.speechBusy] else []
    (s.cfg.ninput ≤ i.toNat →
      exec (.inpRd i) s = .next { s with trace := s.trace ++ [.busReturn 0x00] }) ∧
    (i.toNat < s.cfg.ninput → s.cfg.speechStatusPort ≠ some i.toNat →
      exec (.inpRd i) s = .next { s with trace := s.trace ++ asked ++ [.busReturn v] }) ∧
    (i.toNat < s.cfg.ninput → s.cfg.speechStatusPort = some i.toNat →
      exec (.inpRd i) s = .next { s with
        trace := s.trace ++ asked ++ askedBusy ++ [.busReturn
          (if busy then v &&& ~~~s.cfg.speechBusyMask else v ||| s.cfg.speechBusyMask)] })

/-! ### Tile layers, palette bank, scroll table (R210 to R223) -/

/-- VRAM.WR in range: a byte equal to the one held changes nothing at all; another byte is stored, its
dirty bit set, every other byte and dirty bit left, and nothing outside the layer changes (R211). -/
def Obligations.VramWrite : Prop :=
  ∀ (s : State) (L : BitVec 3) (n : BitVec 16) (d : Byte) (tc : TileCfg) (tl : TileLayer),
    s.cfg.tiles[L.toNat]? = some tc → s.tiles[L.toNat]? = some tl → n.toNat < tc.vramSize →
    tl.vram.wf → tl.dirty.length = tc.vramSize →
    (d = tl.vram.read n.toNat → exec (.vramWr L n d) s = .next s) ∧
    (d ≠ tl.vram.read n.toNat → ∃ tl' : TileLayer,
      exec (.vramWr L n d) s = .next { s with tiles := s.tiles.set L.toNat tl' } ∧
      tl'.bitmap = tl.bitmap ∧
      (∀ a, tl'.vram.read a = if a = n.toNat then d else tl.vram.read a) ∧
      ∀ a, dirtyBit tl'.dirty a = if a = n.toNat then true else dirtyBit tl.dirty a)

/-- VRAM.RD returns the byte and changes nothing; a layer or an offset that does not exist reads 0, and a
write to it does nothing (R212, R217). -/
def Obligations.VramReadAndRange : Prop :=
  ∀ (s : State) (L : BitVec 3) (n : BitVec 16) (d : Byte),
    (∀ tc tl, s.cfg.tiles[L.toNat]? = some tc → s.tiles[L.toNat]? = some tl →
      n.toNat < tc.vramSize →
      exec (.vramRd L n) s = .next { s with
        trace := s.trace ++ [.busReturn (tl.vram.read n.toNat)] }) ∧
    ((s.cfg.tiles.length ≤ L.toNat ∨ ∃ tc, s.cfg.tiles[L.toNat]? = some tc ∧ tc.vramSize ≤ n.toNat) →
      exec (.vramRd L n) s = .next { s with trace := s.trace ++ [.busReturn 0x00] } ∧
      exec (.vramWr L n d) s = .next s)

/-- CTL.PALBANK.WR stores the byte; a toggle of bit 0 sets every dirty bit of every tile and sprite layer
of the bottom monitor, a toggle of bit 1 of the top monitor; every other dirty map, every byte and
every pixel stays (R218). -/
def Obligations.PaletteBankWrite : Prop :=
  ∀ (s : State) (d : Byte),
    let toggled (m : Monitor) : Prop := bankBit d m ≠ bankBit s.palbank m
    ∃ t, exec (.ctlPalbankWr d) s = .next t ∧
      t = { s with
        palbank := d
        tiles := t.tiles
        spr0 := { s.spr0 with dirty := t.spr0.dirty }
        spr1 := { s.spr1 with dirty := t.spr1.dirty } } ∧
      t.tiles.length = s.tiles.length ∧
      (∀ (L : Nat) (tc : TileCfg) (tl : TileLayer), s.cfg.tiles[L]? = some tc →
        s.tiles[L]? = some tl → ∃ tl', t.tiles[L]? = some tl' ∧
          tl' = { tl with dirty := tl'.dirty } ∧
          (toggled tc.mon → tl'.dirty = List.replicate tl.dirty.length true) ∧
          (¬toggled tc.mon → tl'.dirty = tl.dirty)) ∧
      (toggled s.cfg.spr0.mon → t.spr0.dirty = List.replicate s.spr0.dirty.length true) ∧
      (¬toggled s.cfg.spr0.mon → t.spr0.dirty = s.spr0.dirty) ∧
      (toggled s.cfg.spr1.mon → t.spr1.dirty = List.replicate s.spr1.dirty.length true) ∧
      (¬toggled s.cfg.spr1.mon → t.spr1.dirty = s.spr1.dirty)

/-- CTL.PALBANK.RD returns the byte; CTL.SCROLL.WR and CTL.SCROLL.RD reach the bytes of the scroll table,
marking nothing; beyond the table a read gives 0 and a write does nothing (R110, R219, R220, R221). -/
def Obligations.PaletteBankReadAndScrollTable : Prop :=
  ∀ (s : State) (i d : Byte), s.scroll.wf →
    exec .ctlPalbankRd s = .next { s with trace := s.trace ++ [.busReturn s.palbank] } ∧
    (i.toNat < 2 * s.cfg.scrollRows →
      exec (.ctlScrollRd i) s = .next { s with
        trace := s.trace ++ [.busReturn (s.scroll.read i.toNat)] } ∧
      ∃ m : Memory, exec (.ctlScrollWr i d) s = .next { s with scroll := m } ∧
        ∀ a, m.read a = if a = i.toNat then d else s.scroll.read a) ∧
    (2 * s.cfg.scrollRows ≤ i.toNat →
      exec (.ctlScrollRd i) s = .next { s with trace := s.trace ++ [.busReturn 0x00] } ∧
      exec (.ctlScrollWr i d) s = .next s)

/-- TILE.RENDER changes only its layer's bitmap and dirty map, leaves the video RAM, and clears every
dirty bit of the layer's pairs; a layer that does not exist does nothing (R213). -/
def Obligations.TileRender : Prop :=
  ∀ (s : State) (L : BitVec 3),
    (s.cfg.tiles.length ≤ L.toNat → exec (.tileRender L) s = .next s) ∧
    (∀ (tc : TileCfg) (tl : TileLayer), s.cfg.tiles[L.toNat]? = some tc →
      s.tiles[L.toNat]? = some tl → tc.vramSize % 2 = 0 → tl.dirty.length = tc.vramSize →
      ∃ tl' : TileLayer,
        exec (.tileRender L) s = .next { s with tiles := s.tiles.set L.toNat tl' } ∧
        tl'.vram = tl.vram ∧ tl'.dirty = List.replicate tc.vramSize false ∧
        tl'.bitmap.width = tl.bitmap.width ∧ tl'.bitmap.height = tl.bitmap.height)

/-- On a layer that passes the configuration check, TILE.RENDER draws every dirty pair as `DrawTile` says
and leaves the 64 pixels of every clean pair (R213 to R216). -/
def Obligations.TileRenderRedrawsExactlyTheDirtyPairs : Prop :=
  ∀ (s : State) (L : BitVec 3) (tc : TileCfg) (tl : TileLayer),
    s.cfg.tiles[L.toNat]? = some tc → s.tiles[L.toNat]? = some tl →
    vramSizeOk tc = true → tilePosOk tc = true → tl.sizedBy tc → tl.bitmap.wf →
    ∃ (t : State) (tl' : TileLayer), exec (.tileRender L) s = .next t ∧
      t.tiles[L.toNat]? = some tl' ∧
      ∀ k < tc.vramSize / 2, ∀ r < 8, ∀ c < 8,
        let lo := tl.vram.read (2 * k)
        let hi := tl.vram.read (2 * k + 1)
        let info := tileDecode tc s.palbank lo hi
        let x := (tilePos tc k).1 + (if info.flip then 7 - c else c)
        let y := (tilePos tc k).2 + r
        tl'.bitmap.get x y =
          if dirtyBit tl.dirty (2 * k) = true ∨ dirtyBit tl.dirty (2 * k + 1) = true then
            s.color tc.ctLayer
              (info.color * tc.pixvals + romPixel tc.gfx (64 * info.code + 8 * r + c))
          else tl.bitmap.get x y

/-- Every step keeps the coherence invariant on a board that passes the configuration check: the cell of
every clean tile-pair shows what `DrawTile` would draw from the current video RAM and palette bank
(R223). -/
def Obligations.StepKeepsTileCoherence : Prop :=
  ∀ s t : State, checkConfiguration s.cfg = none → s.sized → s.canonical → s.tablesBuilt →
    s.coherent → step s = .next t → t.coherent

/-! ### Sprite layers (R230 to R249) -/

/-- SPR.RAM.WR and SPR.RAM.RD: the value-equality rule, one dirty bit, and 0 or nothing beyond the RAM
(R231, R232, R246). -/
def Obligations.SpriteRam : Prop :=
  ∀ (s : State) (S : BitVec 1) (n : BitVec 15) (d : Byte),
    let size := 64 * (if S = 0 then s.cfg.spr0 else s.cfg.spr1).rows
    let sl := if S = 0 then s.spr0 else s.spr1
    (size ≤ n.toNat →
      exec (.sprRamRd S n) s = .next { s with trace := s.trace ++ [.busReturn 0x00] } ∧
      exec (.sprRamWr S n d) s = .next s) ∧
    (n.toNat < size →
      exec (.sprRamRd S n) s = .next { s with
        trace := s.trace ++ [.busReturn (sl.ram.read n.toNat)] } ∧
      (d = sl.ram.read n.toNat → exec (.sprRamWr S n d) s = .next s) ∧
      (d ≠ sl.ram.read n.toNat → sl.ram.wf → sl.dirty.length = size → ∃ sl' : SpriteLayer,
        exec (.sprRamWr S n d) s =
          .next (if S = 0 then { s with spr0 := sl' } else { s with spr1 := sl' }) ∧
        sl'.bitmap = sl.bitmap ∧
        (∀ a, sl'.ram.read a = if a = n.toNat then d else sl.ram.read a) ∧
        ∀ a, dirtyBit sl'.dirty a = if a = n.toNat then true else dirtyBit sl.dirty a))

/-- SPR.CTRL.WR and SPR.CTRL.RD reach `bsctrl` (S = 0, r < 8) and `bs2ctrl` (S = 1, r < 5); any other
register reads 0 and ignores writes (R243, R245, R246). -/
def Obligations.SpriteControl : Prop :=
  ∀ (s : State) (r : BitVec 15) (d : Byte),
    (∀ h : r.toNat < 8,
      exec (.sprCtrlWr 0 r d) s = .next { s with bsctrl := s.bsctrl.set r.toNat d } ∧
      exec (.sprCtrlRd 0 r) s = .next { s with
        trace := s.trace ++ [.busReturn s.bsctrl[r.toNat]] }) ∧
    (∀ h : r.toNat < 5,
      exec (.sprCtrlWr 1 r d) s = .next { s with bs2ctrl := s.bs2ctrl.set r.toNat d } ∧
      exec (.sprCtrlRd 1 r) s = .next { s with
        trace := s.trace ++ [.busReturn s.bs2ctrl[r.toNat]] }) ∧
    (8 ≤ r.toNat → exec (.sprCtrlWr 0 r d) s = .next s ∧
      exec (.sprCtrlRd 0 r) s = .next { s with trace := s.trace ++ [.busReturn 0x00] }) ∧
    (5 ≤ r.toNat → exec (.sprCtrlWr 1 r d) s = .next s ∧
      exec (.sprCtrlRd 1 r) s = .next { s with trace := s.trace ++ [.busReturn 0x00] })

/-- SPR.REFRESH of layer S changes only its layer's bitmap and dirty map and clears every dirty bit; it
draws every pixel of every cell with a dirty byte, decoded as `CellDecode` says and placed as `DrawCell`
says, cells row-major 16 to a row, and leaves every pixel of every clean cell; S ≥ 2 does nothing (R233,
R234, R235, R249). -/
def Obligations.SpriteRefresh : Prop :=
  ∀ s : State,
    (∀ S : BitVec 1,
      let sc := if S = 0 then s.cfg.spr0 else s.cfg.spr1
      let sl := if S = 0 then s.spr0 else s.spr1
      sl.dirty.length = 64 * sc.rows → ∃ p : Pixmap,
        let sl' : SpriteLayer :=
          { sl with dirty := List.replicate (64 * sc.rows) false, bitmap := p }
        exec (.sprRefresh (S.setWidth 3)) s =
          .next (if S = 0 then { s with spr0 := sl' } else { s with spr1 := sl' }) ∧
        p.width = sl.bitmap.width ∧ p.height = sl.bitmap.height ∧
        (sl.sizedBy sc → sl.bitmap.wf → ∀ k < 16 * sc.rows, ∀ r < sc.cellH, ∀ c < sc.cellW,
          let b (i : Nat) : Byte := sl.ram.read (4 * k + i)
          let code := (b 0).toNat + 256 * (b 1 &&& sc.codeMask).toNat
          let color := ((b 3 >>> sc.colorShift) &&& sc.colorMask).toNat
            + sc.bankStride * (bankBit s.palbank sc.mon).toNat
          let x := sc.cellW * (k % 16)
            + (if b 3 &&& sc.flipMask = 0 then c else sc.cellW - 1 - c)
          let y := sc.cellH * (k / 16) + r
          p.get x y =
            if ∃ i < 4, dirtyBit sl.dirty (4 * k + i) = true then
              s.color sc.ctLayer
                (color * sc.pixvals
                  + romPixel sc.gfx (sc.cellW * sc.cellH * code + sc.cellW * r + c))
            else sl.bitmap.get x y)) ∧
    ∀ S : BitVec 3, 2 ≤ S.toNat → exec (.sprRefresh S) s = .next s

/-- SPR.COMPOSITE of layer 0 writes only the frames; with zoom 0 it changes nothing; otherwise, on each
enabled monitor, a visible pixel whose source lies in the bitmap and is not transparent takes the
source pixel, and every other pixel stays (R236 to R239, R249). -/
def Obligations.SpriteCompositeZoomed : Prop :=
  ∀ s : State,
    let f := bsDecode s.cfg.bigSprite s.bsctrl
    let b := s.cfg.bigSprite
    let sbw : Int := (16 * s.cfg.spr0.cellW : Nat)
    let sbh : Int := (s.cfg.spr0.rows * s.cfg.spr0.cellH : Nat)
    let sx0 : Int := openAt b.rawX Config.freeBsRawX f.xraw
    let sx := if b.xLimit < sx0 then sx0 - b.xPeriod else sx0
    let sy0 : Int := openAt b.rawY Config.freeBsRawY f.yraw
    let sy := (if openAt b.wrapY Config.freeBsWrapY (sy0, f.zoom) then sy0 + b.yPeriod else sy0)
      + b.yBias
    let incx0 : Int := ((openAt b.zoomStepX Config.freeZoomStepX f.zoom : ℕ+) : Nat)
    let incy : Int := ((openAt b.zoomStepY Config.freeZoomStepY f.zoom : ℕ+) : Nat)
    let startx0 := -sx * b.xUnit + b.alignX * f.zoom
    let starty := -sy * b.yUnit + b.alignY * f.zoom
    let startx := if f.flip then sbw * 65536 - startx0 - 1 else startx0
    let incx := if f.flip then -incx0 else incx0
    (f.zoom = 0 → exec .sprComposite0 s = .next s) ∧
    ∃ t, exec .sprComposite0 s = .next t ∧
      t = { s with frameTop := t.frameTop, frameBottom := t.frameBottom } ∧
      (f.enTop = false → t.frameTop = s.frameTop) ∧
      (f.enBottom = false → t.frameBottom = s.frameBottom) ∧
      (f.zoom ≠ 0 → ∀ m : Monitor, (m = .top → f.enTop = true) → (m = .bottom → f.enBottom = true) →
        (s.frame m).wf → ∀ x y : Nat, (s.frame m).covers x y = true →
          let u := (startx + x * incx) / 65536
          let v := (starty + y * incy) / 65536
          let p := s.spr0.bitmap.get u.toNat v.toNat
          ((inVis s m x y ∧ 0 ≤ u ∧ u < sbw ∧ 0 ≤ v ∧ v < sbh ∧ p ≠ transparent s.cfg) →
            (t.frame m).get x y = p) ∧
          (¬(inVis s m x y ∧ 0 ≤ u ∧ u < sbw ∧ 0 ≤ v ∧ v < sbh ∧ p ≠ transparent s.cfg) →
            (t.frame m).get x y = (s.frame m).get x y))

/-- SPR.COMPOSITE of layer 1 writes only the frame of its monitor: every opaque source pixel that lands
in the visible rectangle shows there, mirrored on a flip, and a pixel where none lands stays (R244,
R249). -/
def Obligations.SpriteCompositeUnzoomed : Prop :=
  ∀ s : State,
    let f := bs2Decode s.cfg.bigSprite2 s.bs2ctrl
    let b := s.cfg.bigSprite2
    let sx0 : Int := openAt b.rawX Config.freeBs2RawX f.xraw
    let sx := if b.xLimit < sx0 then sx0 - b.xPeriod else sx0
    let sy0 : Int := openAt b.rawY Config.freeBs2RawY f.yraw
    let sy := if b.yLimit < sy0 then sy0 - b.yPeriod else sy0
    let m := s.cfg.spr1.mon
    let w := 16 * s.cfg.spr1.cellW
    let h := s.cfg.spr1.rows * s.cfg.spr1.cellH
    let lands (u v x y : Nat) : Prop := u < w ∧ v < h ∧ inVis s m x y ∧
      (x : Int) = sx + (if f.flip then w - 1 - u else u : Nat) ∧ (y : Int) = sy + v ∧
      s.spr1.bitmap.get u v ≠ transparent s.cfg
    ∃ t, exec .sprComposite1 s = .next t ∧
      t = { s with frameTop := t.frameTop, frameBottom := t.frameBottom } ∧
      (∀ m', m' ≠ m → t.frame m' = s.frame m') ∧
      ((s.frame m).wf → ∀ x y : Nat, (s.frame m).covers x y = true →
        (∀ u v, lands u v x y → (t.frame m).get x y = s.spr1.bitmap.get u v) ∧
        ((¬∃ u v, lands u v x y) → (t.frame m).get x y = (s.frame m).get x y))

/-! ### Road unit (R260 to R284) -/

/-- The six road registers are written and read by their numbers, k = 7 names none; ROAD.COLL.RD returns
the accumulator and keeps it; ROAD.COLL.CLR zeroes it (R109, R277 to R280). -/
def Obligations.RoadRegistersAndCollisionPort : Prop :=
  ∀ (s : State) (d : Byte),
    exec (.roadRegWr 0 d) s = .next { s with opa := d } ∧
    exec (.roadRegWr 1 d) s = .next { s with opb := d } ∧
    exec (.roadRegWr 2 d) s = .next { s with roadctl := d } ∧
    exec (.roadRegWr 3 d) s = .next { s with ipa := d } ∧
    exec (.roadRegWr 4 d) s = .next { s with ipb := d } ∧
    exec (.roadRegWr 5 d) s = .next { s with ipc := d } ∧
    exec (.roadRegWr 7 d) s = .next s ∧
    exec (.roadRegRd 0) s = .next { s with trace := s.trace ++ [.busReturn s.opa] } ∧
    exec (.roadRegRd 1) s = .next { s with trace := s.trace ++ [.busReturn s.opb] } ∧
    exec (.roadRegRd 2) s = .next { s with trace := s.trace ++ [.busReturn s.roadctl] } ∧
    exec (.roadRegRd 3) s = .next { s with trace := s.trace ++ [.busReturn s.ipa] } ∧
    exec (.roadRegRd 4) s = .next { s with trace := s.trace ++ [.busReturn s.ipb] } ∧
    exec (.roadRegRd 5) s = .next { s with trace := s.trace ++ [.busReturn s.ipc] } ∧
    exec (.roadRegRd 7) s = .next { s with trace := s.trace ++ [.busReturn 0x00] } ∧
    exec .roadCollRd s = .next { s with
      trace := s.trace ++ [.busReturn (0#4 ++ s.collision)] } ∧
    exec .roadCollClr s = .next { s with collision := 0 }

/-- ROAD.SPR.WR and ROAD.SPR.RD reach the bytes of the road sprite RAM; beyond it a read gives 0 and a
write does nothing (R281, R282). -/
def Obligations.RoadSpriteRam : Prop :=
  ∀ (s : State) (n : BitVec 12) (d : Byte), s.roadspr.wf →
    (n.toNat < s.cfg.road.sprSize →
      exec (.roadSprRd n) s = .next { s with
        trace := s.trace ++ [.busReturn (s.roadspr.read n.toNat)] } ∧
      ∃ m : Memory, exec (.roadSprWr n d) s = .next { s with roadspr := m } ∧
        ∀ a, m.read a = if a = n.toNat then d else s.roadspr.read a) ∧
    (s.cfg.road.sprSize ≤ n.toNat →
      exec (.roadSprRd n) s = .next { s with trace := s.trace ++ [.busReturn 0x00] } ∧
      exec (.roadSprWr n d) s = .next s)

/-- ROAD.PARAMS recomputes the sprite tables from the road sprite RAM and changes nothing else: each
record is the board's decoding of its slot, and bit s of a column says whether slot s is active there;
on a tile board it does nothing (R272). -/
def Obligations.RoadParams : Prop :=
  ∀ s : State,
    (s.cfg.roadBoard = false → exec .roadParams s = .next s) ∧
    (s.cfg.roadBoard = true → ∃ t, exec .roadParams s = .next t ∧
      t = { s with sprparam := t.sprparam, sprxmap := t.sprxmap } ∧
      (∀ slot : Fin 16,
        t.sprparam[slot] = decodeParam s.cfg.road (s.roadspr.dump s.cfg.road.sprSize) slot) ∧
      t.sprxmap.length = s.cfg.road.xLast + 1 - s.cfg.road.xFirst ∧
      ∀ x, s.cfg.road.xFirst ≤ x → x ≤ s.cfg.road.xLast → ∀ slot : Fin 16,
        (columnMask t x).getLsbD slot =
          openAt s.cfg.road.spriteXIndex Config.freeSpriteXIndex
            (s.roadspr.dump s.cfg.road.sprSize, slot.val, x))

/-- ROAD.LINE completes in every state.  On a tile board and on a border scanline it does nothing.
Otherwise it ORs into the accumulator the collision bits of every column the sweep reaches, and no other
bit, and leaves the working state of the scanline empty, the sprite buffer [] and the off-road flag
false, whatever they held before (R44; that they are empty between operations is the model's choice,
log 17); the minimal pass changes nothing else, and the full pass writes at every column the sweep
reaches the palette index of that column over the pixel beneath, and no other pixel.  The columns'
addresses, selectors, area indices, entries, sprites and palette indices are `lineAddress` to
`linePixel` (R261 to R271, R284). -/
def Obligations.RoadLine : Prop :=
  ∀ (s : State) (minimal : BitVec 1) (y : Byte),
    ((s.cfg.roadBoard = false ∨ y.toNat < s.cfg.road.yFirst ∨ s.cfg.road.yLast < y.toNat) →
      exec (.roadLine minimal y) s = .next s) ∧
    (s.cfg.roadBoard = true → s.cfg.road.yFirst ≤ y.toNat → y.toNat ≤ s.cfg.road.yLast →
      ∃ t, exec (.roadLine minimal y) s = .next t ∧
        t = { s with
          collision := t.collision, sprbuf := [], offroadDrawn := false
          frameTop := t.frameTop, frameBottom := t.frameBottom } ∧
        (∀ k < 4, t.collision.getLsbD k = true ↔ s.collision.getLsbD k = true ∨
          ∃ px, swept s.cfg.road px = true ∧ (lineCollision s y.toNat px).getLsbD k = true) ∧
        (minimal = 1 → t.frameTop = s.frameTop ∧ t.frameBottom = s.frameBottom) ∧
        (∀ m, m ≠ s.cfg.road.mon → t.frame m = s.frame m) ∧
        (minimal = 0 → (s.frame s.cfg.road.mon).wf → ∀ px,
          swept s.cfg.road px = true → (s.frame s.cfg.road.mon).covers px y.toNat = true →
          (t.frame s.cfg.road.mon).get px y.toNat =
            linePixel s y.toNat px ((s.frame s.cfg.road.mon).get px y.toNat)) ∧
        ∀ px py, (py ≠ y.toNat ∨ swept s.cfg.road px = false) →
          (t.frame s.cfg.road.mon).get px py = (s.frame s.cfg.road.mon).get px py)

/-- From equal state and for equal y, the full and the minimal pass leave the same state but for the
frames (R283, R284(b)). -/
def Obligations.FullAndMinimalPassAgree : Prop :=
  ∀ (s : State) (y : Byte), ∃ t u, exec (.roadLine 0 y) s = .next t ∧
    exec (.roadLine 1 y) s = .next u ∧
    t = { u with frameTop := t.frameTop, frameBottom := t.frameBottom }

/-- A slot is drawn on the scanlines from `miny` to below `maxy`, its row starting at
`offset + SpriteRow * rowStride` (R273).  Drawing a row: at column `xoffset + n` of the window, as long as
no source word up to n is the sentinel and the column mask has the slot, the entry becomes the merge of the
source word, and every other entry stays; so (P7) where the data hold the sentinel at position k, a row
without zoom leaves every entry from column `xoffset + k` on (R275, R276).  On a road board that passes the
configuration check ROAD.PARAMS leaves only records the board lists, and every row of a listed record on a
visible scanline is read inside the data, whatever the zoom (R346, R349; the listed records are the
model's choice, log 25). -/
def Obligations.SentinelEndsTheRow : Prop :=
  (∀ (s : State) (y : Nat) (buf : List Nat) (slot : Fin 16),
    let P := s.sprparam[slot]
    drawSlot s y buf slot =
      if P.miny ≤ y ∧ y < P.maxy then
        drawSpriteRow s slot P
          (P.offset + openAt s.cfg.road.spriteRow Config.freeSpriteRow (P, y) * P.rowStride) buf
      else buf) ∧
  (∀ (s : State) (slot : Nat) (P : SpriteParam) (base : Nat) (buf : List Nat),
    let c := s.cfg.road
    let after := drawSpriteRow s slot P base buf
    after.length = buf.length ∧
    (∀ x : Nat, c.xFirst ≤ x → x < c.xFirst + buf.length →
      ((∀ n : Nat, P.xoffset + n ≠ x) → bufferAt c after x = bufferAt c buf x) ∧
      ∀ n : Nat, P.xoffset + n = x → bufferAt c after x =
        if x ≤ c.xLast ∧ (columnMask s x).getLsbD slot = true ∧
            ∀ m ≤ n, rowWord c (base + srcPos c P m) ≠ 0x12345678 then
          openAt c.sprMerge Config.freeSprMerge
            (bufferAt c buf x, slot, rowWord c (base + srcPos c P n))
        else bufferAt c buf x) ∧
    ∀ k : Nat, (∀ n, openAt c.srcStep Config.freeSrcStep (P, n) = 1) →
      rowWord c (base + k) = 0x12345678 →
      ∀ x : Nat, P.xoffset + k ≤ x → c.xFirst ≤ x → bufferAt c after x = bufferAt c buf x) ∧
  (∀ (s t : State), checkConfiguration s.cfg = none → s.cfg.roadBoard = true →
    exec .roadParams s = .next t → ∀ slot : Fin 16, t.sprparam[slot] ∈ s.cfg.road.paramImage) ∧
  ∀ c : Config, checkConfiguration c = none → c.roadBoard = true → ∀ P ∈ c.road.paramImage,
    ∀ y : Nat, c.road.yFirst ≤ y → y ≤ c.road.yLast → P.miny ≤ y → y < P.maxy →
      rowFits c.road P y

/-- The off-road group is drawn at most once in a sweep: over any pixels of a scanline that starts with
the flag down, the sprite buffer ends as it was if no pixel is off-road, and as one drawing of the
off-road group leaves it otherwise (R268, R284(c)). -/
def Obligations.OffRoadGroupDrawnOnce : Prop :=
  ∀ (s : State) (minimal : Bool) (y va : Nat) (pixels : List (Nat × Nat)), s.offroadDrawn = false →
    let t := pixels.foldl (fun u xi => roadPixelStep minimal y va xi.1 u xi.2) s
    ((∀ xi ∈ pixels, offRoadAt s va xi.1 xi.2 = false) →
      t.sprbuf = s.sprbuf ∧ t.offroadDrawn = false) ∧
    ((∃ xi ∈ pixels, offRoadAt s va xi.1 xi.2 = true) →
      t.sprbuf = (drawSpriteGroup s true y).sprbuf ∧ t.offroadDrawn = true)

/-! ### Palette mapper (R300 to R309) -/

/-- PAL.BUILD rebuilds the RGB table and nothing else: each real entry has the weights of its three
nibbles, each nibble the four bits of the colour PROM that the layout names; the marker stands at index
`PAL_ENTRIES`; the weight of a nibble is 255 less the fixed weighted sum in the inverted family and the
sum of the board's weights in the other (R301, R302, R303).  A sum beyond 8 bits, which only overridden
weights give, has a free weight (log 19); that the layout names bits is the model's reading (log 12). -/
def Obligations.PaletteBuild : Prop :=
  ∀ s : State,
    let c := s.cfg.pal
    (∃ table : List RGB, exec .palBuild s = .next { s with rgbtable := table } ∧
      table.length = c.entries + 1 ∧
      table[c.entries]? = some c.transparentRGB ∧
      ∀ e < c.entries, table[e]? = some
        { r := weight c (palNibble c e .r), g := weight c (palNibble c e .g)
          b := weight c (palNibble c e .b) }) ∧
    (∀ (e : Nat) (ch : Channel) (n : PromNibble), openAt c.nibble (freeNibble c) (e, ch) = n →
      let bit (place : Nat) : Bool := (romByte c.colorProm (place / 8)).getLsbD (place % 8)
      (palNibble c e ch).toNat =
        (bit n.b0).toNat + 2 * (bit n.b1).toNat + 4 * (bit n.b2).toNat + 8 * (bit n.b3).toNat) ∧
    (∀ nib : Nibble, c.inverted = true →
      (weight c nib).toNat = 255 - (0x10 * (nib.getLsbD 0).toNat
        + 0x21 * (nib.getLsbD 1).toNat + 0x46 * (nib.getLsbD 2).toNat
        + 0x88 * (nib.getLsbD 3).toNat)) ∧
    ∀ nib : Nibble, c.inverted = false →
      let sum := c.weight0 * (nib.getLsbD 0).toNat + c.weight1 * (nib.getLsbD 1).toNat
        + c.weight2 * (nib.getLsbD 2).toNat + c.weight3 * (nib.getLsbD 3).toNat
      sum ≤ 255 → (weight c nib).toNat = sum

/-- PAL.CTBUILD rebuilds its layer's table and nothing else: transparent where the residue of v says so,
the base plus the XORed value elsewhere; a layer that does not exist does nothing (R306).  That the
exclusive or is not cut to 8 bits (R14) is the model's choice (log 35). -/
def Obligations.ColorTableBuild : Prop :=
  ∀ (s : State) (g : BitVec 3),
    (s.cfg.cts.length ≤ g.toNat → exec (.palCtBuild g) s = .next s) ∧
    (∀ ct, s.cfg.cts[g.toNat]? = some ct → ∃ table : List Nat,
      exec (.palCtBuild g) s = .next { s with colortable := s.colortable.set g.toNat table } ∧
      table.length = ct.total ∧
      ∀ v < ct.total, table[v]? = some
        (if v % (ct.period : Nat) ∈ ct.residues then s.cfg.pal.entries
         else ct.base + (v ^^^ ct.xorMask)))

/-- On a board that passes the configuration check no real entry of the RGB table equals the transparent
marker, and every colour-table entry is the marker's index or a real one (R304, R309). -/
def Obligations.TransparentMarkerIsUnique : Prop :=
  ∀ c : Config, checkConfiguration c = none →
    (∀ e < c.pal.entries, (buildRgbTable c.pal)[e]? ≠ some c.pal.transparentRGB) ∧
    ∀ table ∈ buildColorTables c, ∀ v ∈ table, v ≤ c.pal.entries

/-- The tables are read-only: a step from a state whose RGB and colour tables are as built leaves them as
built, whatever the operation (R307). -/
def Obligations.StepKeepsTheTables : Prop :=
  ∀ s t : State, s.tablesBuilt → step s = .next t → t.tablesBuilt

/-! ### Sequencer (R320 to R330) -/

/-- SEQ.RESET: on a board that fails the configuration check it raises MalformedROMData with the table's
name; on any other it leaves the PPI bank, the mode latch, the dirty maps and the tables at their reset
values and the NVRAM as it was (R53, R321, R346).  That on a road board the drawn sprite records are
among those the board lists is the model's choice (log 25). -/
def Obligations.SeqReset : Prop :=
  ∀ s : State,
    (∀ name, checkConfiguration s.cfg = some name →
      exec .seqReset s = .fault (.malformedROMData name)) ∧
    (checkConfiguration s.cfg = none → ∃ t, exec .seqReset s = .next t ∧
      t.cfg = s.cfg ∧ t.nvram = s.nvram ∧ t.trace = s.trace ∧ t.pending = s.pending ∧
      t.ppi = List.replicate s.cfg.nchip
        { groupA := 0, groupB := 0, ioA := 0xFF, ioB := 0xFF, ioC := 0xFF, latchA := 0x00,
          latchB := 0x00, latchC := 0x00, control := 0x1B } ∧
      t.modeSelector = none ∧
      t.tiles.length = s.cfg.tiles.length ∧
      (∀ (L : Nat) (tc : TileCfg), s.cfg.tiles[L]? = some tc → ∃ tl, t.tiles[L]? = some tl ∧
        tl.dirty = List.replicate tc.vramSize true) ∧
      t.spr0.dirty = List.replicate (64 * s.cfg.spr0.rows) true ∧
      t.spr1.dirty = List.replicate (64 * s.cfg.spr1.rows) true ∧
      (s.cfg.roadBoard = true → ∀ slot : Fin 16, t.sprparam[slot] ∈ s.cfg.road.paramImage) ∧
      t.rgbtable = buildRgbTable s.cfg.pal ∧ t.colortable = buildColorTables s.cfg)

/-- SEQ.RESET on a board that does not meet some row of R346's table stops with MalformedROMData naming a
row that is not met; on a board that meets every row it completes (R10, R346).  The rows are
`tableFails`; they rest on the model's readings of them: the order, the ranges of OPEN index functions,
the bits of the colour PROM and ChannelCombine's range (log 12), the main-memory size (log 22), the
listed sprite records and the rows read inside the data (log 25), a SCROLL_LAYER that names no layer
(log 28), which entries count for TRANSPARENT_RGB (log 33), an exclusive or of unbounded width (log 35),
CT_XOR held for non-transparent values alone (log 36), and a visible rectangle of no pixels (log 37). -/
def Obligations.ResetRefusesMalformedBoards : Prop :=
  ∀ s : State,
    ((∃ name, tableFails s.cfg name) → ∃ name, tableFails s.cfg name ∧
      exec .seqReset s = .fault (.malformedROMData name)) ∧
    ((∀ name, ¬tableFails s.cfg name) → ∃ t, exec .seqReset s = .next t)

/-- SEQ.FRAME completes, clears every dirty bit, adds one frame-presentation event and asks nobody, and
changes only bitmaps, dirty maps, frames, the road tables and the accumulator, which keeps its bits; no
PPI, protection, sound-bridge, NVRAM or RAM byte changes.  It is its named steps in order, from the state
with every dirty bit set when `fullRefresh` is 1: every tile layer rendered, both sprite layers refreshed,
the tiles composited, then the sprites, then on a road board the sprite tables and every visible scanline
in full, and the presentation of what the frames then hold (R322, R326, R330).  The second part is for
boards whose layers and scanlines the words can name; that a frame takes in those above too is the model's
choice (log 34). -/
def Obligations.SeqFrame : Prop :=
  ∀ (s : State) (full : BitVec 1),
    (s.sized → (∀ tc ∈ s.cfg.tiles, tc.vramSize % 2 = 0) →
      ∃ t, exec (.seqFrame full) s = .next t ∧
        t = { s with
          tiles := t.tiles
          spr0 := { s.spr0 with dirty := t.spr0.dirty, bitmap := t.spr0.bitmap }
          spr1 := { s.spr1 with dirty := t.spr1.dirty, bitmap := t.spr1.bitmap }
          collision := t.collision, sprparam := t.sprparam, sprxmap := t.sprxmap
          frameTop := t.frameTop, frameBottom := t.frameBottom
          trace := s.trace ++ [.framePresent (t.visiblePixels .top) (t.visiblePixels .bottom)] } ∧
        t.tiles.map TileLayer.vram = s.tiles.map TileLayer.vram ∧
        t.clean ∧ s.collision ||| t.collision = t.collision) ∧
    (s.cfg.tiles.length ≤ 8 → s.cfg.road.yLast < 256 →
      ∃ u, runAll (frameSteps s.cfg) (if full = 1 then allDirty s else s) = .next u ∧
        exec (.seqFrame full) s = .next { u with
          trace := u.trace ++ [.framePresent (u.visiblePixels .top) (u.visiblePixels .bottom)] })

/-- SEQ.COLLONLY completes; on a tile board it does nothing; on a road board it changes only the road
tables and the accumulator, which keeps its bits.  It is ROAD.PARAMS and then ROAD.LINE minimal on every
visible scanline in order, on a road board, and no step on a tile board (R323).  That part is for boards
whose scanlines the words can name; that the pass takes in those above 255 too is the model's choice
(log 34). -/
def Obligations.SeqCollOnly : Prop :=
  ∀ s : State,
    (s.cfg.roadBoard = false → exec .seqCollOnly s = .next s) ∧
    (s.sprbuf = [] → s.offroadDrawn = false → ∃ t, exec .seqCollOnly s = .next t ∧
      t = { s with
        collision := t.collision, sprparam := t.sprparam, sprxmap := t.sprxmap } ∧
      s.collision ||| t.collision = t.collision) ∧
    (s.cfg.road.yLast < 256 → ∃ t, exec .seqCollOnly s = .next t ∧
      runAll (roadSteps 1 s.cfg) s = .next t)

/-- From equal state SEQ.FRAME and SEQ.COLLONLY leave the same accumulator and the same road tables
(R284(b), R323). -/
def Obligations.FrameAndCollOnlyAgree : Prop :=
  ∀ (s : State) (full : BitVec 1), ∃ t u, exec (.seqFrame full) s = .next t ∧
    exec .seqCollOnly s = .next u ∧
    t.collision = u.collision ∧ t.sprparam = u.sprparam ∧ t.sprxmap = u.sprxmap

/-- Two SEQ.FRAME #0 in a row leave equal state outside the frames and the trace: the second redraws
nothing and adds no collision bit (R322, R330(c)). -/
def Obligations.SecondFrameRedrawsNothing : Prop :=
  ∀ s : State, ∃ t u, exec (.seqFrame 0) s = .next t ∧ exec (.seqFrame 0) t = .next u ∧
    u = { t with frameTop := u.frameTop, frameBottom := u.frameBottom, trace := u.trace }

/-- SEQ.FRAME does not depend on what the host would answer or on what travels beside the request: its
result is a function of the state and the configuration alone (R330(b)). -/
def Obligations.FrameIgnoresTheHost : Prop :=
  ∀ (s t : State) (full : BitVec 1) (inputs : Beside) (clock : Nat),
    exec (.seqFrame full) s = .next t →
    exec (.seqFrame full) { s with inputs := inputs, clock := clock } =
      .next { t with inputs := inputs, clock := clock }

/-- SEQ.SCROLLCOMP completes and writes only frames, and only visible pixels: a pixel shows the last tile
layer of its monitor that covers it, scrolled where the layer scrolls, and stays where none does
(R325). -/
def Obligations.ScrollComposite : Prop :=
  ∀ s : State, s.frameTop.wf → s.frameBottom.wf → s.tiles.length = s.cfg.tiles.length →
    ∃ t, exec .seqScrollComp s = .next t ∧
      t = { s with frameTop := t.frameTop, frameBottom := t.frameBottom } ∧
      ∀ (m : Monitor) (x y : Nat), (s.frame m).covers x y = true →
        let shows (L : Nat) : Prop := ∃ tc, s.cfg.tiles[L]? = some tc ∧ tc.mon = m ∧
          shownAt s L tc x y ≠ none
        (inVis s m x y → ∀ L tc tl b, s.cfg.tiles[L]? = some tc → s.tiles[L]? = some tl →
          tc.mon = m → shownAt s L tc x y = some b → (∀ L', L < L' → ¬shows L') →
          (t.frame m).get x y = tl.bitmap.get b.1 b.2) ∧
        ((¬inVis s m x y ∨ ∀ L, ¬shows L) → (t.frame m).get x y = (s.frame m).get x y)

/-! ### NVRAM and words no row takes -/

/-- NV.RD and NV.WR reach the bytes of the NVRAM and have no other effect; beyond it a read gives 0 and a
write does nothing; NV.EXPORT hands out a copy of the region and changes no state; NV.IMPORT of a blob of
exactly `NVRAM_SIZE` bytes replaces the region by it and changes nothing else, so that an export then
gives the blob back (R80, R87).  R87 forbids the host an import after the first bus transaction; that it
is executed whenever it is presented is the model's choice (log 11). -/
def Obligations.Nvram : Prop :=
  ∀ (s : State) (n : BitVec 16) (d : Byte), s.nvram.wf →
    (n.toNat < s.cfg.nvramSize →
      exec (.nvRd n) s = .next { s with
        trace := s.trace ++ [.busReturn (s.nvram.read n.toNat)] } ∧
      ∃ m : Memory, exec (.nvWr n d) s = .next { s with nvram := m } ∧
        ∀ a, m.read a = if a = n.toNat then d else s.nvram.read a) ∧
    (s.cfg.nvramSize ≤ n.toNat →
      exec (.nvRd n) s = .next { s with trace := s.trace ++ [.busReturn 0x00] } ∧
      exec (.nvWr n d) s = .next s) ∧
    (∃ bytes : List Byte, bytes.length = s.cfg.nvramSize ∧
      (∀ a < s.cfg.nvramSize, bytes[a]? = some (s.nvram.read a)) ∧
      exec .nvExport s = .next { s with trace := s.trace ++ [.nvExport bytes] }) ∧
    (s.inputs.blob.length = s.cfg.nvramSize → ∃ m : Memory,
      exec .nvImport s = .next { s with nvram := m } ∧
      (∀ a < s.cfg.nvramSize, s.inputs.blob[a]? = some (m.read a)) ∧
      exec .nvExport { s with nvram := m } = .next { s with
        nvram := m, trace := s.trace ++ [.nvExport s.inputs.blob] })

/-- BUS.OOR returns 0 for a read and does nothing for a write; every word of the reserved units 10 to 15
is such a word (R130). -/
def Obligations.BusOutOfRange : Prop :=
  (∀ (s : State) (unit : BitVec 4),
    exec (.busOor unit 0) s = .next { s with trace := s.trace ++ [.busReturn 0x00] } ∧
    exec (.busOor unit 1) s = .next s) ∧
  ∀ tw : TW, 10 ≤ (unitOf tw).toNat → decode tw = .busOor (unitOf tw) (wOf tw)

/-! ### The whole machine -/

/-- Every step keeps every memory and bitmap in canonical form.  That form is the model's own, not a rule
of the spec (log 4). -/
def Obligations.StepKeepsCanonicalForm : Prop :=
  ∀ s t : State, s.canonical → step s = .next t → t.canonical

/-- Every step keeps the board and the sizes of the chips, of the tile and sprite layers' dirty maps and
bitmaps, of the frames, of the road column masks and of the colour tables, and no scanline's working state
outlives its operation (R44, R45, R47, R52). -/
def Obligations.StepKeepsTheBoardAndSizes : Prop :=
  ∀ s t : State, step s = .next t →
    t.cfg = s.cfg ∧ (s.sized → t.sized) ∧ (s.tablesSized → t.tablesSized)

/-- No operation stops but SEQ.RESET with MalformedROMData and PPI.INIT above four chips (R97, R340,
R348). -/
def Obligations.OnlyAdmittedStops : Prop :=
  ∀ (i : Instr) (s : State), admitted i (exec i s)

/-- Every read transaction completes, returns exactly one byte, and changes nothing but the trace: no
read changes any state of the block (R78, R81). -/
def Obligations.ReadsChangeNoState : Prop :=
  ∀ (s : State) (tw : TW), wOf tw = 0 →
    ∃ (asked : List Event) (v : Byte), exec (decode tw) s = .next { s with
      trace := s.trace ++ asked ++ [.busReturn v] } ∧ ∀ w, Event.busReturn w ∉ asked

/-- No bus transaction changes a pixel: an operation of any unit but SEQ leaves every bitmap and both
frames as they are (R375). -/
def Obligations.BusTransactionsChangeNoPixel : Prop :=
  ∀ (s t : State) (tw : TW), unitOf tw ≠ 0 → exec (decode tw) s = .next t →
    t.frameTop = s.frameTop ∧ t.frameBottom = s.frameBottom ∧
    t.tiles.map TileLayer.bitmap = s.tiles.map TileLayer.bitmap ∧
    t.spr0.bitmap = s.spr0.bitmap ∧ t.spr1.bitmap = s.spr1.bitmap

/-- Who writes what: the mode latch changes only by PROT.WR13 and SEQ.RESET and is never unset otherwise;
the accumulator loses a bit only by ROAD.COLL.CLR and SEQ.RESET; the PPI bank changes only by PPI
operations and SEQ.RESET; the NVRAM only by NV.WR and NV.IMPORT (R28, R43, R49, R330(d)). -/
def Obligations.WhoWritesWhat : Prop :=
  ∀ (i : Instr) (s t : State), exec i s = .next t →
    (t.modeSelector ≠ s.modeSelector → i = .seqReset ∨ ∃ d, i = .protWr13 d) ∧
    (s.collision ||| t.collision ≠ t.collision → i = .seqReset ∨ i = .roadCollClr) ∧
    (t.ppi ≠ s.ppi → i = .seqReset ∨ (∃ n, i = .ppiInit n) ∨ (∃ c d, i = .ppiWrA c d) ∨
      (∃ c d, i = .ppiWrB c d) ∨ (∃ c d, i = .ppiWrC c d) ∨
      (∃ c ga da dcu gb db dcl, i = .ppiWrMode c ga da dcu gb db dcl) ∨
      ∃ c x n b, i = .ppiWrBsr c x n b) ∧
    (t.nvram ≠ s.nvram → i = .nvImport ∨ ∃ n d, i = .nvWr n d)

/-- The state after reset meets every invariant, and a step of it, with nothing presented, answers that
state: the block then has nothing to do (R371).  That unspecified registers, memories and pixels read 0
there, and which board it stands on, are the model's choices (log 1, log 3, log 4), and so is that a
step with nothing presented changes nothing (log 7). -/
def Obligations.ResetMeetsTheInvariants : Prop :=
  State.reset.masksOk ∧ State.reset.canonical ∧ State.reset.sized ∧
    State.reset.tablesSized ∧ State.reset.tablesBuilt ∧ State.reset.coherent ∧ checkConfiguration State.reset.cfg = none ∧
    State.reset.modeSelector = none ∧ step State.reset = .next State.reset
end

