-- ==== Sys2Proof/Laws/Decode.lean ====
section
/-!
SUPPORT. The fields of a packed transaction word (R100), so that decoding a word written field by field
is decoding its fields.
-/

namespace Sys2Proof

theorem extract_append_low {m n : Nat} (x : BitVec m) (y : BitVec n) :
    (x ++ y).extractLsb' 0 n = y := by
  ext k hk
  simp [BitVec.getLsbD_append, hk, BitVec.getLsbD_eq_getElem]

theorem extract_append_high {m n : Nat} (x : BitVec m) (y : BitVec n) :
    (x ++ y).extractLsb' n m = x := by
  ext k hk
  simp only [BitVec.getElem_extractLsb', BitVec.getLsbD_append]
  rw [if_neg (by omega), show n + k - n = k by omega, BitVec.getLsbD_eq_getElem hk]

/-- Bits above the low part come from the high part. -/
theorem extract_append_above {m n : Nat} (x : BitVec m) (y : BitVec n) (j k : Nat) :
    (x ++ y).extractLsb' (n + j) k = x.extractLsb' j k := by
  ext i hi
  simp only [BitVec.getElem_extractLsb', BitVec.getLsbD_append]
  rw [if_neg (by omega), show n + j + i - n = j + i by omega]

variable (u : BitVec 4) (w : BitVec 1) (i : BitVec 3) (s : BitVec 16) (d : Byte)

@[simp] theorem dataOf_packTW : dataOf (packTW u w i s d) = d := extract_append_low _ _

@[simp] theorem selOf_packTW : selOf (packTW u w i s d) = s :=
  (extract_append_above (u ++ w ++ i ++ s) d 0 16).trans (extract_append_low _ _)

@[simp] theorem instOf_packTW : instOf (packTW u w i s d) = i :=
  ((extract_append_above (u ++ w ++ i ++ s) d 16 3).trans
    (extract_append_above (u ++ w ++ i) s 0 3)).trans (extract_append_low _ _)

@[simp] theorem wOf_packTW : wOf (packTW u w i s d) = w :=
  (((extract_append_above (u ++ w ++ i ++ s) d 19 1).trans
    (extract_append_above (u ++ w ++ i) s 3 1)).trans
      (extract_append_above (u ++ w) i 0 1)).trans (extract_append_low _ _)

@[simp] theorem unitOf_packTW : unitOf (packTW u w i s d) = u :=
  (((extract_append_above (u ++ w ++ i ++ s) d 20 4).trans
    (extract_append_above (u ++ w ++ i) s 4 4)).trans
      (extract_append_above (u ++ w) i 1 4)).trans (extract_append_high _ _)

/-- Decoding a word written field by field. -/
theorem decode_packTW : decode (packTW u w i s d) = decodeFields u w i s d := by
  unfold decode
  rw [unitOf_packTW, wOf_packTW, instOf_packTW, selOf_packTW, dataOf_packTW]

end Sys2Proof
end

