-- ==== Sys2Proof/Laws/Memory.lean ====
section
/-!
SUPPORT. What the memory and bitmap operations do: a read after a write, and the canonical form every
operation keeps.
-/

namespace Sys2Proof.Machine

open Sys2Proof

/-! ### Sorted cells -/

theorem cellsFind_put_same {α : Type} (cells : List (Nat × α)) (a : Nat) (v : Option α)
    (h : (cells.map Prod.fst).Pairwise (· < ·)) : cellsFind (cellsPut cells a v) a = v := by
  induction cells with
  | nil => cases v <;> simp [cellsPut, cellsFind]
  | cons c rest ih =>
    obtain ⟨b, w⟩ := c
    simp only [List.map_cons, List.pairwise_cons] at h
    have later : ∀ r : List (Nat × α), (∀ x ∈ r.map Prod.fst, b < x) → a ≤ b →
        cellsFind r a = none := by
      intro r
      induction r with
      | nil => intros; rfl
      | cons d r ihr =>
        intro hr hab
        obtain ⟨e, u⟩ := d
        simp only [List.map_cons, List.mem_cons, forall_eq_or_imp] at hr
        have : a ≠ e := by omega
        simp [cellsFind, this, ihr hr.2 hab]
    simp only [cellsPut]
    split_ifs with hlt heq
    · cases v with
      | some v => simp [cellsFind]
      | none =>
        have : a ≠ b := by omega
        simp [cellsFind, this, later rest h.1 hlt.le]
    · subst heq
      cases v with
      | some v => simp [cellsFind]
      | none => simpa using later rest h.1 le_rfl
    · simp [cellsFind, heq, ih h.2]

theorem cellsFind_put_ne {α : Type} (cells : List (Nat × α)) (a a' : Nat) (v : Option α)
    (h : a' ≠ a) : cellsFind (cellsPut cells a v) a' = cellsFind cells a' := by
  induction cells with
  | nil => cases v <;> simp [cellsPut, cellsFind, h]
  | cons c rest ih =>
    obtain ⟨b, w⟩ := c
    simp only [cellsPut]
    split_ifs with hlt heq
    · cases v <;> simp [cellsFind, h]
    · subst heq
      cases v <;> simp [cellsFind, h]
    · simp [cellsFind, ih]

theorem mem_cellsPut {α : Type} {cells : List (Nat × α)} {a : Nat} {v : Option α}
    {c : Nat × α} (h : c ∈ cellsPut cells a v) : c ∈ cells ∨ (c.1 = a ∧ v = some c.2) := by
  induction cells with
  | nil => cases v <;> simp_all [cellsPut]
  | cons d rest ih =>
    obtain ⟨b, w⟩ := d
    simp only [cellsPut] at h
    split_ifs at h with hlt heq
    · cases v <;> simp_all
      rcases h with rfl | rfl | h <;> simp_all
    · cases v <;> simp_all
      rcases h with rfl | h <;> simp_all
    · rcases List.mem_cons.1 h with rfl | h
      · simp
      · rcases ih h with h | h <;> simp [h]

theorem cellsPut_rising {α : Type} {cells : List (Nat × α)} (a : Nat) (v : Option α)
    (h : (cells.map Prod.fst).Pairwise (· < ·)) :
    ((cellsPut cells a v).map Prod.fst).Pairwise (· < ·) := by
  induction cells with
  | nil => cases v <;> simp [cellsPut]
  | cons c rest ih =>
    obtain ⟨b, w⟩ := c
    simp only [List.map_cons, List.pairwise_cons] at h
    simp only [cellsPut]
    split_ifs with hlt heq
    · cases v with
      | none => simpa using h
      | some v =>
        simp only [List.map_cons, List.pairwise_cons, List.mem_cons, forall_eq_or_imp]
        exact ⟨⟨hlt, fun x hx => lt_trans hlt (h.1 x hx)⟩, h.1, h.2⟩
    · subst heq
      cases v with
      | none => exact h.2
      | some v => simpa using h
    · simp only [List.map_cons, List.pairwise_cons]
      refine ⟨fun x hx => ?_, ih h.2⟩
      obtain ⟨d, hd, rfl⟩ := List.mem_map.1 hx
      rcases mem_cellsPut hd with hd | ⟨hd, _⟩
      · exact h.1 _ (List.mem_map_of_mem hd)
      · omega

theorem cellsPut_wf {α : Type} {unlisted : Nat → α} {cells : List (Nat × α)} (a : Nat)
    (v : Option α) (h : CellsWf unlisted cells) (hv : ∀ w, v = some w → w ≠ unlisted a) :
    CellsWf unlisted (cellsPut cells a v) := by
  refine ⟨cellsPut_rising a v h.1, fun c hc => ?_⟩
  rcases mem_cellsPut hc with hc | ⟨hc, hw⟩
  · exact h.2 c hc
  · exact hc ▸ hv _ hw

/-! ### Byte memories -/

@[simp] theorem Memory.unwritten_read (f : Fill) (site : Site) (a : Nat) :
    (Memory.unwritten f site).read a = f.byte site a := rfl

@[simp] theorem Memory.write_fill (m : Memory) (a : Nat) (v : Byte) :
    (m.write a v).fill = m.fill := rfl

@[simp] theorem Memory.write_site (m : Memory) (a : Nat) (v : Byte) :
    (m.write a v).site = m.site := rfl

@[simp] theorem Memory.write_unlisted (m : Memory) (a : Nat) (v : Byte) :
    (m.write a v).unlisted = m.unlisted := rfl

theorem Memory.unwritten_wf (f : Fill) (site : Site) : (Memory.unwritten f site).wf :=
  ⟨List.Pairwise.nil, fun _ h => by cases h⟩

theorem Memory.read_write_same (m : Memory) (a : Nat) (v : Byte) (h : m.wf) :
    (m.write a v).read a = v := by
  simp only [Memory.read, Memory.write, cellsFind_put_same _ _ _ h.1]
  split_ifs with hv
  · simpa [Memory.unlisted] using hv.symm
  · rfl

theorem Memory.read_write_ne (m : Memory) (a a' : Nat) (v : Byte) (h : a' ≠ a) :
    (m.write a v).read a' = m.read a' := by
  simp [Memory.read, Memory.write, cellsFind_put_ne _ _ _ _ h, Memory.unlisted]

theorem Memory.write_wf (m : Memory) (a : Nat) (v : Byte) (h : m.wf) : (m.write a v).wf := by
  refine cellsPut_wf a _ h fun w hw => ?_
  split_ifs at hw with hv
  simp only [Option.some.injEq] at hw
  exact hw ▸ hv

theorem Memory.load_wf (m : Memory) (a : Nat) (bs : List Byte) (h : m.wf) : (m.load a bs).wf := by
  induction bs generalizing m a with
  | nil => exact h
  | cons b bs ih => exact ih _ _ (m.write_wf a b h)

theorem Memory.load_read_below (m : Memory) (a a' : Nat) (bs : List Byte) (h : a' < a) :
    (m.load a bs).read a' = m.read a' := by
  induction bs generalizing m a with
  | nil => rfl
  | cons b bs ih =>
    rw [Memory.load, ih _ _ (by omega), Memory.read_write_ne _ _ _ _ (by omega)]

theorem Memory.load_read (m : Memory) (a i : Nat) (bs : List Byte) (h : m.wf)
    (hi : i < bs.length) : (m.load a bs).read (a + i) = bs[i] := by
  induction bs generalizing m a i with
  | nil => simp at hi
  | cons b bs ih =>
    cases i with
    | zero =>
      rw [Memory.load, Memory.load_read_below _ _ _ _ (by omega)]
      exact m.read_write_same a b h
    | succ i =>
      have := ih (m.write a b) (a + 1) i (m.write_wf a b h) (by simpa using hi)
      simpa [Memory.load, Nat.add_comm, Nat.add_left_comm] using this

@[simp] theorem Memory.dump_length (m : Memory) (size : Nat) : (m.dump size).length = size := by
  simp [Memory.dump]

theorem Memory.dump_getElem (m : Memory) (size i : Nat) (h : i < size) :
    (m.dump size)[i]'(by simpa using h) = m.read i := by
  simp [Memory.dump]

/-! ### Bitmaps -/

@[simp] theorem Pixmap.set_width (p : Pixmap) (x y v : Nat) : (p.set x y v).width = p.width := by
  unfold Pixmap.set; split_ifs <;> rfl

@[simp] theorem Pixmap.set_height (p : Pixmap) (x y v : Nat) :
    (p.set x y v).height = p.height := by
  unfold Pixmap.set; split_ifs <;> rfl

@[simp] theorem Pixmap.set_fill (p : Pixmap) (x y v : Nat) : (p.set x y v).fill = p.fill := by
  unfold Pixmap.set; split_ifs <;> rfl

@[simp] theorem Pixmap.set_site (p : Pixmap) (x y v : Nat) : (p.set x y v).site = p.site := by
  unfold Pixmap.set; split_ifs <;> rfl

@[simp] theorem Pixmap.set_covers (p : Pixmap) (x y v x' y' : Nat) :
    (p.set x y v).covers x' y' = p.covers x' y' := by
  simp [Pixmap.covers]

theorem Pixmap.covers_iff (p : Pixmap) (x y : Nat) :
    p.covers x y = true ↔ x < p.width ∧ y < p.height := by
  simp [Pixmap.covers]

theorem Pixmap.position_lt (p : Pixmap) {x y : Nat} (h : p.covers x y = true) :
    y * p.width + x < p.width * p.height := by
  obtain ⟨hx, hy⟩ := (p.covers_iff x y).1 h
  calc y * p.width + x < y * p.width + p.width := by omega
    _ = (y + 1) * p.width := by ring
    _ ≤ p.height * p.width := Nat.mul_le_mul_right _ hy
    _ = p.width * p.height := Nat.mul_comm _ _

theorem Pixmap.position_inj (p : Pixmap) {x y x' y' : Nat} (h : p.covers x y = true)
    (h' : p.covers x' y' = true) (e : y * p.width + x = y' * p.width + x') : x = x' ∧ y = y' := by
  obtain ⟨hx, _⟩ := (p.covers_iff x y).1 h
  obtain ⟨hx', _⟩ := (p.covers_iff x' y').1 h'
  have hpos : 0 < p.width := by omega
  have hy : y = y' := by
    have := congrArg (· / p.width) e
    simpa [Nat.add_comm _ x, Nat.add_comm _ x', Nat.add_mul_div_right _ _ hpos,
      Nat.div_eq_of_lt hx, Nat.div_eq_of_lt hx'] using this
  subst hy
  exact ⟨by omega, rfl⟩

theorem Pixmap.undrawn_wf (width height : Nat) (f : Fill) (site : Site) :
    (Pixmap.undrawn width height f site).wf :=
  ⟨⟨List.Pairwise.nil, fun _ h => by cases h⟩, fun _ h => by cases h⟩

theorem Pixmap.set_wf (p : Pixmap) (x y v : Nat) (h : p.wf) : (p.set x y v).wf := by
  by_cases hc : p.covers x y = true
  · simp only [Pixmap.set, hc, if_true]
    refine ⟨cellsPut_wf _ _ h.1 fun w hw => ?_, fun c hm => ?_⟩
    · split_ifs at hw with hv
      simp only [Option.some.injEq] at hw
      exact hw ▸ hv
    · rcases mem_cellsPut hm with hm | ⟨hm, _⟩
      · exact h.2 c hm
      · exact hm ▸ p.position_lt hc
  · simpa [Pixmap.set, hc] using h

theorem Pixmap.get_set_same (p : Pixmap) (x y v : Nat) (h : p.wf) (hc : p.covers x y = true) :
    (p.set x y v).get x y = v := by
  have hc' : (p.set x y v).covers x y = true := by simpa using hc
  simp only [Pixmap.get, hc', if_true, Pixmap.set_width]
  simp only [Pixmap.set, hc, if_true, cellsFind_put_same _ _ _ h.1.1]
  split_ifs with hv
  · simpa [Pixmap.unlisted] using hv.symm
  · rfl

theorem Pixmap.get_set_ne (p : Pixmap) (x y v x' y' : Nat) (h : ¬(x' = x ∧ y' = y)) :
    (p.set x y v).get x' y' = p.get x' y' := by
  by_cases hc : p.covers x y = true
  · by_cases hc' : p.covers x' y' = true
    · have hne : y' * p.width + x' ≠ y * p.width + x := fun e => h (p.position_inj hc' hc e)
      simp only [Pixmap.get, Pixmap.set_covers, hc', if_true, Pixmap.set_width]
      simp [Pixmap.set, hc, cellsFind_put_ne _ _ _ _ hne, Pixmap.unlisted]
    · simp [Pixmap.get, hc']
  · simp [Pixmap.set, hc]

end Sys2Proof.Machine
end

