-- ==== Sys2Proof/Laws/State.lean ====
section
/-!
SUPPORT. The fields of the state after each named update: one lemma per field, true by `rfl`.
-/

namespace Sys2Proof.Machine

open Sys2Proof

variable (s : State)

/-! ### Appending an event -/

@[simp] theorem State.emit_cfg (e : Event) : (s.emit e).cfg = s.cfg := rfl
@[simp] theorem State.emit_ppi (e : Event) : (s.emit e).ppi = s.ppi := rfl
@[simp] theorem State.emit_modeSelector (e : Event) :
    (s.emit e).modeSelector = s.modeSelector := rfl
@[simp] theorem State.emit_registers (e : Event) : (s.emit e).registers = s.registers := rfl
@[simp] theorem State.emit_soundlatch (e : Event) : (s.emit e).soundlatch = s.soundlatch := rfl
@[simp] theorem State.emit_soundlatch2 (e : Event) : (s.emit e).soundlatch2 = s.soundlatch2 := rfl
@[simp] theorem State.emit_speechReset (e : Event) : (s.emit e).speechReset = s.speechReset := rfl
@[simp] theorem State.emit_speechStart (e : Event) : (s.emit e).speechStart = s.speechStart := rfl
@[simp] theorem State.emit_speechVcu (e : Event) : (s.emit e).speechVcu = s.speechVcu := rfl
@[simp] theorem State.emit_sndCpuReset (e : Event) : (s.emit e).sndCpuReset = s.sndCpuReset := rfl
@[simp] theorem State.emit_tiles (e : Event) : (s.emit e).tiles = s.tiles := rfl
@[simp] theorem State.emit_spr0 (e : Event) : (s.emit e).spr0 = s.spr0 := rfl
@[simp] theorem State.emit_spr1 (e : Event) : (s.emit e).spr1 = s.spr1 := rfl
@[simp] theorem State.emit_scroll (e : Event) : (s.emit e).scroll = s.scroll := rfl
@[simp] theorem State.emit_bsctrl (e : Event) : (s.emit e).bsctrl = s.bsctrl := rfl
@[simp] theorem State.emit_bs2ctrl (e : Event) : (s.emit e).bs2ctrl = s.bs2ctrl := rfl
@[simp] theorem State.emit_palbank (e : Event) : (s.emit e).palbank = s.palbank := rfl
@[simp] theorem State.emit_opa (e : Event) : (s.emit e).opa = s.opa := rfl
@[simp] theorem State.emit_opb (e : Event) : (s.emit e).opb = s.opb := rfl
@[simp] theorem State.emit_roadctl (e : Event) : (s.emit e).roadctl = s.roadctl := rfl
@[simp] theorem State.emit_ipa (e : Event) : (s.emit e).ipa = s.ipa := rfl
@[simp] theorem State.emit_ipb (e : Event) : (s.emit e).ipb = s.ipb := rfl
@[simp] theorem State.emit_ipc (e : Event) : (s.emit e).ipc = s.ipc := rfl
@[simp] theorem State.emit_collision (e : Event) : (s.emit e).collision = s.collision := rfl
@[simp] theorem State.emit_sprbuf (e : Event) : (s.emit e).sprbuf = s.sprbuf := rfl
@[simp] theorem State.emit_offroadDrawn (e : Event) :
    (s.emit e).offroadDrawn = s.offroadDrawn := rfl
@[simp] theorem State.emit_sprparam (e : Event) : (s.emit e).sprparam = s.sprparam := rfl
@[simp] theorem State.emit_sprxmap (e : Event) : (s.emit e).sprxmap = s.sprxmap := rfl
@[simp] theorem State.emit_roadspr (e : Event) : (s.emit e).roadspr = s.roadspr := rfl
@[simp] theorem State.emit_rgbtable (e : Event) : (s.emit e).rgbtable = s.rgbtable := rfl
@[simp] theorem State.emit_colortable (e : Event) : (s.emit e).colortable = s.colortable := rfl
@[simp] theorem State.emit_frameTop (e : Event) : (s.emit e).frameTop = s.frameTop := rfl
@[simp] theorem State.emit_frameBottom (e : Event) : (s.emit e).frameBottom = s.frameBottom := rfl
@[simp] theorem State.emit_nvram (e : Event) : (s.emit e).nvram = s.nvram := rfl
@[simp] theorem State.emit_pending (e : Event) : (s.emit e).pending = s.pending := rfl
@[simp] theorem State.emit_inputs (e : Event) : (s.emit e).inputs = s.inputs := rfl
@[simp] theorem State.emit_trace (e : Event) : (s.emit e).trace = s.trace ++ [e] := rfl
@[simp] theorem State.emit_clock (e : Event) : (s.emit e).clock = s.clock := rfl
@[simp] theorem State.emit_resetAt (e : Event) : (s.emit e).resetAt = s.resetAt := rfl

/-! ### Returning a byte -/

@[simp] theorem State.ret_cfg (v : Byte) : (s.ret v).cfg = s.cfg := rfl
@[simp] theorem State.ret_ppi (v : Byte) : (s.ret v).ppi = s.ppi := rfl
@[simp] theorem State.ret_modeSelector (v : Byte) : (s.ret v).modeSelector = s.modeSelector := rfl
@[simp] theorem State.ret_registers (v : Byte) : (s.ret v).registers = s.registers := rfl
@[simp] theorem State.ret_soundlatch (v : Byte) : (s.ret v).soundlatch = s.soundlatch := rfl
@[simp] theorem State.ret_soundlatch2 (v : Byte) : (s.ret v).soundlatch2 = s.soundlatch2 := rfl
@[simp] theorem State.ret_speechReset (v : Byte) : (s.ret v).speechReset = s.speechReset := rfl
@[simp] theorem State.ret_speechStart (v : Byte) : (s.ret v).speechStart = s.speechStart := rfl
@[simp] theorem State.ret_speechVcu (v : Byte) : (s.ret v).speechVcu = s.speechVcu := rfl
@[simp] theorem State.ret_sndCpuReset (v : Byte) : (s.ret v).sndCpuReset = s.sndCpuReset := rfl
@[simp] theorem State.ret_tiles (v : Byte) : (s.ret v).tiles = s.tiles := rfl
@[simp] theorem State.ret_spr0 (v : Byte) : (s.ret v).spr0 = s.spr0 := rfl
@[simp] theorem State.ret_spr1 (v : Byte) : (s.ret v).spr1 = s.spr1 := rfl
@[simp] theorem State.ret_scroll (v : Byte) : (s.ret v).scroll = s.scroll := rfl
@[simp] theorem State.ret_bsctrl (v : Byte) : (s.ret v).bsctrl = s.bsctrl := rfl
@[simp] theorem State.ret_bs2ctrl (v : Byte) : (s.ret v).bs2ctrl = s.bs2ctrl := rfl
@[simp] theorem State.ret_palbank (v : Byte) : (s.ret v).palbank = s.palbank := rfl
@[simp] theorem State.ret_opa (v : Byte) : (s.ret v).opa = s.opa := rfl
@[simp] theorem State.ret_opb (v : Byte) : (s.ret v).opb = s.opb := rfl
@[simp] theorem State.ret_roadctl (v : Byte) : (s.ret v).roadctl = s.roadctl := rfl
@[simp] theorem State.ret_ipa (v : Byte) : (s.ret v).ipa = s.ipa := rfl
@[simp] theorem State.ret_ipb (v : Byte) : (s.ret v).ipb = s.ipb := rfl
@[simp] theorem State.ret_ipc (v : Byte) : (s.ret v).ipc = s.ipc := rfl
@[simp] theorem State.ret_collision (v : Byte) : (s.ret v).collision = s.collision := rfl
@[simp] theorem State.ret_sprbuf (v : Byte) : (s.ret v).sprbuf = s.sprbuf := rfl
@[simp] theorem State.ret_offroadDrawn (v : Byte) : (s.ret v).offroadDrawn = s.offroadDrawn := rfl
@[simp] theorem State.ret_sprparam (v : Byte) : (s.ret v).sprparam = s.sprparam := rfl
@[simp] theorem State.ret_sprxmap (v : Byte) : (s.ret v).sprxmap = s.sprxmap := rfl
@[simp] theorem State.ret_roadspr (v : Byte) : (s.ret v).roadspr = s.roadspr := rfl
@[simp] theorem State.ret_rgbtable (v : Byte) : (s.ret v).rgbtable = s.rgbtable := rfl
@[simp] theorem State.ret_colortable (v : Byte) : (s.ret v).colortable = s.colortable := rfl
@[simp] theorem State.ret_frameTop (v : Byte) : (s.ret v).frameTop = s.frameTop := rfl
@[simp] theorem State.ret_frameBottom (v : Byte) : (s.ret v).frameBottom = s.frameBottom := rfl
@[simp] theorem State.ret_nvram (v : Byte) : (s.ret v).nvram = s.nvram := rfl
@[simp] theorem State.ret_pending (v : Byte) : (s.ret v).pending = s.pending := rfl
@[simp] theorem State.ret_inputs (v : Byte) : (s.ret v).inputs = s.inputs := rfl
@[simp] theorem State.ret_trace (v : Byte) : (s.ret v).trace = s.trace ++ [.busReturn v] := rfl
@[simp] theorem State.ret_clock (v : Byte) : (s.ret v).clock = s.clock := rfl
@[simp] theorem State.ret_resetAt (v : Byte) : (s.ret v).resetAt = s.resetAt := rfl

/-! ### Replacing a PPI chip -/

@[simp] theorem State.setChip_cfg (c : BitVec 3) (ch : Chip) : (s.setChip c ch).cfg = s.cfg := rfl
@[simp] theorem State.setChip_ppi (c : BitVec 3) (ch : Chip) :
    (s.setChip c ch).ppi = s.ppi.set c.toNat ch := rfl
@[simp] theorem State.setChip_modeSelector (c : BitVec 3) (ch : Chip) :
    (s.setChip c ch).modeSelector = s.modeSelector := rfl
@[simp] theorem State.setChip_registers (c : BitVec 3) (ch : Chip) :
    (s.setChip c ch).registers = s.registers := rfl
@[simp] theorem State.setChip_soundlatch (c : BitVec 3) (ch : Chip) :
    (s.setChip c ch).soundlatch = s.soundlatch := rfl
@[simp] theorem State.setChip_soundlatch2 (c : BitVec 3) (ch : Chip) :
    (s.setChip c ch).soundlatch2 = s.soundlatch2 := rfl
@[simp] theorem State.setChip_speechReset (c : BitVec 3) (ch : Chip) :
    (s.setChip c ch).speechReset = s.speechReset := rfl
@[simp] theorem State.setChip_speechStart (c : BitVec 3) (ch : Chip) :
    (s.setChip c ch).speechStart = s.speechStart := rfl
@[simp] theorem State.setChip_speechVcu (c : BitVec 3) (ch : Chip) :
    (s.setChip c ch).speechVcu = s.speechVcu := rfl
@[simp] theorem State.setChip_sndCpuReset (c : BitVec 3) (ch : Chip) :
    (s.setChip c ch).sndCpuReset = s.sndCpuReset := rfl
@[simp] theorem State.setChip_tiles (c : BitVec 3) (ch : Chip) :
    (s.setChip c ch).tiles = s.tiles := rfl
@[simp] theorem State.setChip_spr0 (c : BitVec 3) (ch : Chip) :
    (s.setChip c ch).spr0 = s.spr0 := rfl
@[simp] theorem State.setChip_spr1 (c : BitVec 3) (ch : Chip) :
    (s.setChip c ch).spr1 = s.spr1 := rfl
@[simp] theorem State.setChip_scroll (c : BitVec 3) (ch : Chip) :
    (s.setChip c ch).scroll = s.scroll := rfl
@[simp] theorem State.setChip_bsctrl (c : BitVec 3) (ch : Chip) :
    (s.setChip c ch).bsctrl = s.bsctrl := rfl
@[simp] theorem State.setChip_bs2ctrl (c : BitVec 3) (ch : Chip) :
    (s.setChip c ch).bs2ctrl = s.bs2ctrl := rfl
@[simp] theorem State.setChip_palbank (c : BitVec 3) (ch : Chip) :
    (s.setChip c ch).palbank = s.palbank := rfl
@[simp] theorem State.setChip_opa (c : BitVec 3) (ch : Chip) : (s.setChip c ch).opa = s.opa := rfl
@[simp] theorem State.setChip_opb (c : BitVec 3) (ch : Chip) : (s.setChip c ch).opb = s.opb := rfl
@[simp] theorem State.setChip_roadctl (c : BitVec 3) (ch : Chip) :
    (s.setChip c ch).roadctl = s.roadctl := rfl
@[simp] theorem State.setChip_ipa (c : BitVec 3) (ch : Chip) : (s.setChip c ch).ipa = s.ipa := rfl
@[simp] theorem State.setChip_ipb (c : BitVec 3) (ch : Chip) : (s.setChip c ch).ipb = s.ipb := rfl
@[simp] theorem State.setChip_ipc (c : BitVec 3) (ch : Chip) : (s.setChip c ch).ipc = s.ipc := rfl
@[simp] theorem State.setChip_collision (c : BitVec 3) (ch : Chip) :
    (s.setChip c ch).collision = s.collision := rfl
@[simp] theorem State.setChip_sprbuf (c : BitVec 3) (ch : Chip) :
    (s.setChip c ch).sprbuf = s.sprbuf := rfl
@[simp] theorem State.setChip_offroadDrawn (c : BitVec 3) (ch : Chip) :
    (s.setChip c ch).offroadDrawn = s.offroadDrawn := rfl
@[simp] theorem State.setChip_sprparam (c : BitVec 3) (ch : Chip) :
    (s.setChip c ch).sprparam = s.sprparam := rfl
@[simp] theorem State.setChip_sprxmap (c : BitVec 3) (ch : Chip) :
    (s.setChip c ch).sprxmap = s.sprxmap := rfl
@[simp] theorem State.setChip_roadspr (c : BitVec 3) (ch : Chip) :
    (s.setChip c ch).roadspr = s.roadspr := rfl
@[simp] theorem State.setChip_rgbtable (c : BitVec 3) (ch : Chip) :
    (s.setChip c ch).rgbtable = s.rgbtable := rfl
@[simp] theorem State.setChip_colortable (c : BitVec 3) (ch : Chip) :
    (s.setChip c ch).colortable = s.colortable := rfl
@[simp] theorem State.setChip_frameTop (c : BitVec 3) (ch : Chip) :
    (s.setChip c ch).frameTop = s.frameTop := rfl
@[simp] theorem State.setChip_frameBottom (c : BitVec 3) (ch : Chip) :
    (s.setChip c ch).frameBottom = s.frameBottom := rfl
@[simp] theorem State.setChip_nvram (c : BitVec 3) (ch : Chip) :
    (s.setChip c ch).nvram = s.nvram := rfl
@[simp] theorem State.setChip_pending (c : BitVec 3) (ch : Chip) :
    (s.setChip c ch).pending = s.pending := rfl
@[simp] theorem State.setChip_inputs (c : BitVec 3) (ch : Chip) :
    (s.setChip c ch).inputs = s.inputs := rfl
@[simp] theorem State.setChip_trace (c : BitVec 3) (ch : Chip) :
    (s.setChip c ch).trace = s.trace := rfl
@[simp] theorem State.setChip_clock (c : BitVec 3) (ch : Chip) :
    (s.setChip c ch).clock = s.clock := rfl
@[simp] theorem State.setChip_resetAt (c : BitVec 3) (ch : Chip) :
    (s.setChip c ch).resetAt = s.resetAt := rfl

/-! ### Replacing a tile layer -/

@[simp] theorem State.setTile_cfg (L : Nat) (tl : TileLayer) : (s.setTile L tl).cfg = s.cfg := rfl
@[simp] theorem State.setTile_ppi (L : Nat) (tl : TileLayer) : (s.setTile L tl).ppi = s.ppi := rfl
@[simp] theorem State.setTile_modeSelector (L : Nat) (tl : TileLayer) :
    (s.setTile L tl).modeSelector = s.modeSelector := rfl
@[simp] theorem State.setTile_registers (L : Nat) (tl : TileLayer) :
    (s.setTile L tl).registers = s.registers := rfl
@[simp] theorem State.setTile_soundlatch (L : Nat) (tl : TileLayer) :
    (s.setTile L tl).soundlatch = s.soundlatch := rfl
@[simp] theorem State.setTile_soundlatch2 (L : Nat) (tl : TileLayer) :
    (s.setTile L tl).soundlatch2 = s.soundlatch2 := rfl
@[simp] theorem State.setTile_speechReset (L : Nat) (tl : TileLayer) :
    (s.setTile L tl).speechReset = s.speechReset := rfl
@[simp] theorem State.setTile_speechStart (L : Nat) (tl : TileLayer) :
    (s.setTile L tl).speechStart = s.speechStart := rfl
@[simp] theorem State.setTile_speechVcu (L : Nat) (tl : TileLayer) :
    (s.setTile L tl).speechVcu = s.speechVcu := rfl
@[simp] theorem State.setTile_sndCpuReset (L : Nat) (tl : TileLayer) :
    (s.setTile L tl).sndCpuReset = s.sndCpuReset := rfl
@[simp] theorem State.setTile_tiles (L : Nat) (tl : TileLayer) :
    (s.setTile L tl).tiles = s.tiles.set L tl := rfl
@[simp] theorem State.setTile_spr0 (L : Nat) (tl : TileLayer) :
    (s.setTile L tl).spr0 = s.spr0 := rfl
@[simp] theorem State.setTile_spr1 (L : Nat) (tl : TileLayer) :
    (s.setTile L tl).spr1 = s.spr1 := rfl
@[simp] theorem State.setTile_scroll (L : Nat) (tl : TileLayer) :
    (s.setTile L tl).scroll = s.scroll := rfl
@[simp] theorem State.setTile_bsctrl (L : Nat) (tl : TileLayer) :
    (s.setTile L tl).bsctrl = s.bsctrl := rfl
@[simp] theorem State.setTile_bs2ctrl (L : Nat) (tl : TileLayer) :
    (s.setTile L tl).bs2ctrl = s.bs2ctrl := rfl
@[simp] theorem State.setTile_palbank (L : Nat) (tl : TileLayer) :
    (s.setTile L tl).palbank = s.palbank := rfl
@[simp] theorem State.setTile_opa (L : Nat) (tl : TileLayer) : (s.setTile L tl).opa = s.opa := rfl
@[simp] theorem State.setTile_opb (L : Nat) (tl : TileLayer) : (s.setTile L tl).opb = s.opb := rfl
@[simp] theorem State.setTile_roadctl (L : Nat) (tl : TileLayer) :
    (s.setTile L tl).roadctl = s.roadctl := rfl
@[simp] theorem State.setTile_ipa (L : Nat) (tl : TileLayer) : (s.setTile L tl).ipa = s.ipa := rfl
@[simp] theorem State.setTile_ipb (L : Nat) (tl : TileLayer) : (s.setTile L tl).ipb = s.ipb := rfl
@[simp] theorem State.setTile_ipc (L : Nat) (tl : TileLayer) : (s.setTile L tl).ipc = s.ipc := rfl
@[simp] theorem State.setTile_collision (L : Nat) (tl : TileLayer) :
    (s.setTile L tl).collision = s.collision := rfl
@[simp] theorem State.setTile_sprbuf (L : Nat) (tl : TileLayer) :
    (s.setTile L tl).sprbuf = s.sprbuf := rfl
@[simp] theorem State.setTile_offroadDrawn (L : Nat) (tl : TileLayer) :
    (s.setTile L tl).offroadDrawn = s.offroadDrawn := rfl
@[simp] theorem State.setTile_sprparam (L : Nat) (tl : TileLayer) :
    (s.setTile L tl).sprparam = s.sprparam := rfl
@[simp] theorem State.setTile_sprxmap (L : Nat) (tl : TileLayer) :
    (s.setTile L tl).sprxmap = s.sprxmap := rfl
@[simp] theorem State.setTile_roadspr (L : Nat) (tl : TileLayer) :
    (s.setTile L tl).roadspr = s.roadspr := rfl
@[simp] theorem State.setTile_rgbtable (L : Nat) (tl : TileLayer) :
    (s.setTile L tl).rgbtable = s.rgbtable := rfl
@[simp] theorem State.setTile_colortable (L : Nat) (tl : TileLayer) :
    (s.setTile L tl).colortable = s.colortable := rfl
@[simp] theorem State.setTile_frameTop (L : Nat) (tl : TileLayer) :
    (s.setTile L tl).frameTop = s.frameTop := rfl
@[simp] theorem State.setTile_frameBottom (L : Nat) (tl : TileLayer) :
    (s.setTile L tl).frameBottom = s.frameBottom := rfl
@[simp] theorem State.setTile_nvram (L : Nat) (tl : TileLayer) :
    (s.setTile L tl).nvram = s.nvram := rfl
@[simp] theorem State.setTile_pending (L : Nat) (tl : TileLayer) :
    (s.setTile L tl).pending = s.pending := rfl
@[simp] theorem State.setTile_inputs (L : Nat) (tl : TileLayer) :
    (s.setTile L tl).inputs = s.inputs := rfl
@[simp] theorem State.setTile_trace (L : Nat) (tl : TileLayer) :
    (s.setTile L tl).trace = s.trace := rfl
@[simp] theorem State.setTile_clock (L : Nat) (tl : TileLayer) :
    (s.setTile L tl).clock = s.clock := rfl
@[simp] theorem State.setTile_resetAt (L : Nat) (tl : TileLayer) :
    (s.setTile L tl).resetAt = s.resetAt := rfl

/-! ### Writing a protection register -/

@[simp] theorem State.setRegister_cfg (o : BitVec 4) (v : Byte) :
    (s.setRegister o v).cfg = s.cfg := rfl
@[simp] theorem State.setRegister_ppi (o : BitVec 4) (v : Byte) :
    (s.setRegister o v).ppi = s.ppi := rfl
@[simp] theorem State.setRegister_modeSelector (o : BitVec 4) (v : Byte) :
    (s.setRegister o v).modeSelector = s.modeSelector := rfl
@[simp] theorem State.setRegister_registers (o : BitVec 4) (v : Byte) :
    (s.setRegister o v).registers = s.registers.set o.toNat v := rfl
@[simp] theorem State.setRegister_soundlatch (o : BitVec 4) (v : Byte) :
    (s.setRegister o v).soundlatch = s.soundlatch := rfl
@[simp] theorem State.setRegister_soundlatch2 (o : BitVec 4) (v : Byte) :
    (s.setRegister o v).soundlatch2 = s.soundlatch2 := rfl
@[simp] theorem State.setRegister_speechReset (o : BitVec 4) (v : Byte) :
    (s.setRegister o v).speechReset = s.speechReset := rfl
@[simp] theorem State.setRegister_speechStart (o : BitVec 4) (v : Byte) :
    (s.setRegister o v).speechStart = s.speechStart := rfl
@[simp] theorem State.setRegister_speechVcu (o : BitVec 4) (v : Byte) :
    (s.setRegister o v).speechVcu = s.speechVcu := rfl
@[simp] theorem State.setRegister_sndCpuReset (o : BitVec 4) (v : Byte) :
    (s.setRegister o v).sndCpuReset = s.sndCpuReset := rfl
@[simp] theorem State.setRegister_tiles (o : BitVec 4) (v : Byte) :
    (s.setRegister o v).tiles = s.tiles := rfl
@[simp] theorem State.setRegister_spr0 (o : BitVec 4) (v : Byte) :
    (s.setRegister o v).spr0 = s.spr0 := rfl
@[simp] theorem State.setRegister_spr1 (o : BitVec 4) (v : Byte) :
    (s.setRegister o v).spr1 = s.spr1 := rfl
@[simp] theorem State.setRegister_scroll (o : BitVec 4) (v : Byte) :
    (s.setRegister o v).scroll = s.scroll := rfl
@[simp] theorem State.setRegister_bsctrl (o : BitVec 4) (v : Byte) :
    (s.setRegister o v).bsctrl = s.bsctrl := rfl
@[simp] theorem State.setRegister_bs2ctrl (o : BitVec 4) (v : Byte) :
    (s.setRegister o v).bs2ctrl = s.bs2ctrl := rfl
@[simp] theorem State.setRegister_palbank (o : BitVec 4) (v : Byte) :
    (s.setRegister o v).palbank = s.palbank := rfl
@[simp] theorem State.setRegister_opa (o : BitVec 4) (v : Byte) :
    (s.setRegister o v).opa = s.opa := rfl
@[simp] theorem State.setRegister_opb (o : BitVec 4) (v : Byte) :
    (s.setRegister o v).opb = s.opb := rfl
@[simp] theorem State.setRegister_roadctl (o : BitVec 4) (v : Byte) :
    (s.setRegister o v).roadctl = s.roadctl := rfl
@[simp] theorem State.setRegister_ipa (o : BitVec 4) (v : Byte) :
    (s.setRegister o v).ipa = s.ipa := rfl
@[simp] theorem State.setRegister_ipb (o : BitVec 4) (v : Byte) :
    (s.setRegister o v).ipb = s.ipb := rfl
@[simp] theorem State.setRegister_ipc (o : BitVec 4) (v : Byte) :
    (s.setRegister o v).ipc = s.ipc := rfl
@[simp] theorem State.setRegister_collision (o : BitVec 4) (v : Byte) :
    (s.setRegister o v).collision = s.collision := rfl
@[simp] theorem State.setRegister_sprbuf (o : BitVec 4) (v : Byte) :
    (s.setRegister o v).sprbuf = s.sprbuf := rfl
@[simp] theorem State.setRegister_offroadDrawn (o : BitVec 4) (v : Byte) :
    (s.setRegister o v).offroadDrawn = s.offroadDrawn := rfl
@[simp] theorem State.setRegister_sprparam (o : BitVec 4) (v : Byte) :
    (s.setRegister o v).sprparam = s.sprparam := rfl
@[simp] theorem State.setRegister_sprxmap (o : BitVec 4) (v : Byte) :
    (s.setRegister o v).sprxmap = s.sprxmap := rfl
@[simp] theorem State.setRegister_roadspr (o : BitVec 4) (v : Byte) :
    (s.setRegister o v).roadspr = s.roadspr := rfl
@[simp] theorem State.setRegister_rgbtable (o : BitVec 4) (v : Byte) :
    (s.setRegister o v).rgbtable = s.rgbtable := rfl
@[simp] theorem State.setRegister_colortable (o : BitVec 4) (v : Byte) :
    (s.setRegister o v).colortable = s.colortable := rfl
@[simp] theorem State.setRegister_frameTop (o : BitVec 4) (v : Byte) :
    (s.setRegister o v).frameTop = s.frameTop := rfl
@[simp] theorem State.setRegister_frameBottom (o : BitVec 4) (v : Byte) :
    (s.setRegister o v).frameBottom = s.frameBottom := rfl
@[simp] theorem State.setRegister_nvram (o : BitVec 4) (v : Byte) :
    (s.setRegister o v).nvram = s.nvram := rfl
@[simp] theorem State.setRegister_pending (o : BitVec 4) (v : Byte) :
    (s.setRegister o v).pending = s.pending := rfl
@[simp] theorem State.setRegister_inputs (o : BitVec 4) (v : Byte) :
    (s.setRegister o v).inputs = s.inputs := rfl
@[simp] theorem State.setRegister_trace (o : BitVec 4) (v : Byte) :
    (s.setRegister o v).trace = s.trace := rfl
@[simp] theorem State.setRegister_clock (o : BitVec 4) (v : Byte) :
    (s.setRegister o v).clock = s.clock := rfl
@[simp] theorem State.setRegister_resetAt (o : BitVec 4) (v : Byte) :
    (s.setRegister o v).resetAt = s.resetAt := rfl

/-! ### Replacing a sprite layer -/

@[simp] theorem State.setSprite_cfg (S : SpriteId) (sl : SpriteLayer) :
    (s.setSprite S sl).cfg = s.cfg := by
  cases S <;> rfl
@[simp] theorem State.setSprite_ppi (S : SpriteId) (sl : SpriteLayer) :
    (s.setSprite S sl).ppi = s.ppi := by
  cases S <;> rfl
@[simp] theorem State.setSprite_modeSelector (S : SpriteId) (sl : SpriteLayer) :
    (s.setSprite S sl).modeSelector = s.modeSelector := by
  cases S <;> rfl
@[simp] theorem State.setSprite_registers (S : SpriteId) (sl : SpriteLayer) :
    (s.setSprite S sl).registers = s.registers := by
  cases S <;> rfl
@[simp] theorem State.setSprite_soundlatch (S : SpriteId) (sl : SpriteLayer) :
    (s.setSprite S sl).soundlatch = s.soundlatch := by
  cases S <;> rfl
@[simp] theorem State.setSprite_soundlatch2 (S : SpriteId) (sl : SpriteLayer) :
    (s.setSprite S sl).soundlatch2 = s.soundlatch2 := by
  cases S <;> rfl
@[simp] theorem State.setSprite_speechReset (S : SpriteId) (sl : SpriteLayer) :
    (s.setSprite S sl).speechReset = s.speechReset := by
  cases S <;> rfl
@[simp] theorem State.setSprite_speechStart (S : SpriteId) (sl : SpriteLayer) :
    (s.setSprite S sl).speechStart = s.speechStart := by
  cases S <;> rfl
@[simp] theorem State.setSprite_speechVcu (S : SpriteId) (sl : SpriteLayer) :
    (s.setSprite S sl).speechVcu = s.speechVcu := by
  cases S <;> rfl
@[simp] theorem State.setSprite_sndCpuReset (S : SpriteId) (sl : SpriteLayer) :
    (s.setSprite S sl).sndCpuReset = s.sndCpuReset := by
  cases S <;> rfl
@[simp] theorem State.setSprite_tiles (S : SpriteId) (sl : SpriteLayer) :
    (s.setSprite S sl).tiles = s.tiles := by
  cases S <;> rfl
@[simp] theorem State.setSprite_scroll (S : SpriteId) (sl : SpriteLayer) :
    (s.setSprite S sl).scroll = s.scroll := by
  cases S <;> rfl
@[simp] theorem State.setSprite_bsctrl (S : SpriteId) (sl : SpriteLayer) :
    (s.setSprite S sl).bsctrl = s.bsctrl := by
  cases S <;> rfl
@[simp] theorem State.setSprite_bs2ctrl (S : SpriteId) (sl : SpriteLayer) :
    (s.setSprite S sl).bs2ctrl = s.bs2ctrl := by
  cases S <;> rfl
@[simp] theorem State.setSprite_palbank (S : SpriteId) (sl : SpriteLayer) :
    (s.setSprite S sl).palbank = s.palbank := by
  cases S <;> rfl
@[simp] theorem State.setSprite_opa (S : SpriteId) (sl : SpriteLayer) :
    (s.setSprite S sl).opa = s.opa := by
  cases S <;> rfl
@[simp] theorem State.setSprite_opb (S : SpriteId) (sl : SpriteLayer) :
    (s.setSprite S sl).opb = s.opb := by
  cases S <;> rfl
@[simp] theorem State.setSprite_roadctl (S : SpriteId) (sl : SpriteLayer) :
    (s.setSprite S sl).roadctl = s.roadctl := by
  cases S <;> rfl
@[simp] theorem State.setSprite_ipa (S : SpriteId) (sl : SpriteLayer) :
    (s.setSprite S sl).ipa = s.ipa := by
  cases S <;> rfl
@[simp] theorem State.setSprite_ipb (S : SpriteId) (sl : SpriteLayer) :
    (s.setSprite S sl).ipb = s.ipb := by
  cases S <;> rfl
@[simp] theorem State.setSprite_ipc (S : SpriteId) (sl : SpriteLayer) :
    (s.setSprite S sl).ipc = s.ipc := by
  cases S <;> rfl
@[simp] theorem State.setSprite_collision (S : SpriteId) (sl : SpriteLayer) :
    (s.setSprite S sl).collision = s.collision := by
  cases S <;> rfl
@[simp] theorem State.setSprite_sprbuf (S : SpriteId) (sl : SpriteLayer) :
    (s.setSprite S sl).sprbuf = s.sprbuf := by
  cases S <;> rfl
@[simp] theorem State.setSprite_offroadDrawn (S : SpriteId) (sl : SpriteLayer) :
    (s.setSprite S sl).offroadDrawn = s.offroadDrawn := by
  cases S <;> rfl
@[simp] theorem State.setSprite_sprparam (S : SpriteId) (sl : SpriteLayer) :
    (s.setSprite S sl).sprparam = s.sprparam := by
  cases S <;> rfl
@[simp] theorem State.setSprite_sprxmap (S : SpriteId) (sl : SpriteLayer) :
    (s.setSprite S sl).sprxmap = s.sprxmap := by
  cases S <;> rfl
@[simp] theorem State.setSprite_roadspr (S : SpriteId) (sl : SpriteLayer) :
    (s.setSprite S sl).roadspr = s.roadspr := by
  cases S <;> rfl
@[simp] theorem State.setSprite_rgbtable (S : SpriteId) (sl : SpriteLayer) :
    (s.setSprite S sl).rgbtable = s.rgbtable := by
  cases S <;> rfl
@[simp] theorem State.setSprite_colortable (S : SpriteId) (sl : SpriteLayer) :
    (s.setSprite S sl).colortable = s.colortable := by
  cases S <;> rfl
@[simp] theorem State.setSprite_frameTop (S : SpriteId) (sl : SpriteLayer) :
    (s.setSprite S sl).frameTop = s.frameTop := by
  cases S <;> rfl
@[simp] theorem State.setSprite_frameBottom (S : SpriteId) (sl : SpriteLayer) :
    (s.setSprite S sl).frameBottom = s.frameBottom := by
  cases S <;> rfl
@[simp] theorem State.setSprite_nvram (S : SpriteId) (sl : SpriteLayer) :
    (s.setSprite S sl).nvram = s.nvram := by
  cases S <;> rfl
@[simp] theorem State.setSprite_pending (S : SpriteId) (sl : SpriteLayer) :
    (s.setSprite S sl).pending = s.pending := by
  cases S <;> rfl
@[simp] theorem State.setSprite_inputs (S : SpriteId) (sl : SpriteLayer) :
    (s.setSprite S sl).inputs = s.inputs := by
  cases S <;> rfl
@[simp] theorem State.setSprite_trace (S : SpriteId) (sl : SpriteLayer) :
    (s.setSprite S sl).trace = s.trace := by
  cases S <;> rfl
@[simp] theorem State.setSprite_clock (S : SpriteId) (sl : SpriteLayer) :
    (s.setSprite S sl).clock = s.clock := by
  cases S <;> rfl
@[simp] theorem State.setSprite_resetAt (S : SpriteId) (sl : SpriteLayer) :
    (s.setSprite S sl).resetAt = s.resetAt := by
  cases S <;> rfl

@[simp] theorem State.setSprite_spr0_big0 (sl : SpriteLayer) : (s.setSprite .big0 sl).spr0 = sl := rfl
@[simp] theorem State.setSprite_spr1_big0 (sl : SpriteLayer) :
    (s.setSprite .big0 sl).spr1 = s.spr1 := rfl
@[simp] theorem State.setSprite_spr0_big1 (sl : SpriteLayer) :
    (s.setSprite .big1 sl).spr0 = s.spr0 := rfl
@[simp] theorem State.setSprite_spr1_big1 (sl : SpriteLayer) : (s.setSprite .big1 sl).spr1 = sl := rfl

/-! ### Replacing a frame -/

@[simp] theorem State.setFrame_cfg (m : Monitor) (p : Pixmap) :
    (s.setFrame m p).cfg = s.cfg := by
  cases m <;> rfl
@[simp] theorem State.setFrame_ppi (m : Monitor) (p : Pixmap) :
    (s.setFrame m p).ppi = s.ppi := by
  cases m <;> rfl
@[simp] theorem State.setFrame_modeSelector (m : Monitor) (p : Pixmap) :
    (s.setFrame m p).modeSelector = s.modeSelector := by
  cases m <;> rfl
@[simp] theorem State.setFrame_registers (m : Monitor) (p : Pixmap) :
    (s.setFrame m p).registers = s.registers := by
  cases m <;> rfl
@[simp] theorem State.setFrame_soundlatch (m : Monitor) (p : Pixmap) :
    (s.setFrame m p).soundlatch = s.soundlatch := by
  cases m <;> rfl
@[simp] theorem State.setFrame_soundlatch2 (m : Monitor) (p : Pixmap) :
    (s.setFrame m p).soundlatch2 = s.soundlatch2 := by
  cases m <;> rfl
@[simp] theorem State.setFrame_speechReset (m : Monitor) (p : Pixmap) :
    (s.setFrame m p).speechReset = s.speechReset := by
  cases m <;> rfl
@[simp] theorem State.setFrame_speechStart (m : Monitor) (p : Pixmap) :
    (s.setFrame m p).speechStart = s.speechStart := by
  cases m <;> rfl
@[simp] theorem State.setFrame_speechVcu (m : Monitor) (p : Pixmap) :
    (s.setFrame m p).speechVcu = s.speechVcu := by
  cases m <;> rfl
@[simp] theorem State.setFrame_sndCpuReset (m : Monitor) (p : Pixmap) :
    (s.setFrame m p).sndCpuReset = s.sndCpuReset := by
  cases m <;> rfl
@[simp] theorem State.setFrame_tiles (m : Monitor) (p : Pixmap) :
    (s.setFrame m p).tiles = s.tiles := by
  cases m <;> rfl
@[simp] theorem State.setFrame_spr0 (m : Monitor) (p : Pixmap) :
    (s.setFrame m p).spr0 = s.spr0 := by
  cases m <;> rfl
@[simp] theorem State.setFrame_spr1 (m : Monitor) (p : Pixmap) :
    (s.setFrame m p).spr1 = s.spr1 := by
  cases m <;> rfl
@[simp] theorem State.setFrame_scroll (m : Monitor) (p : Pixmap) :
    (s.setFrame m p).scroll = s.scroll := by
  cases m <;> rfl
@[simp] theorem State.setFrame_bsctrl (m : Monitor) (p : Pixmap) :
    (s.setFrame m p).bsctrl = s.bsctrl := by
  cases m <;> rfl
@[simp] theorem State.setFrame_bs2ctrl (m : Monitor) (p : Pixmap) :
    (s.setFrame m p).bs2ctrl = s.bs2ctrl := by
  cases m <;> rfl
@[simp] theorem State.setFrame_palbank (m : Monitor) (p : Pixmap) :
    (s.setFrame m p).palbank = s.palbank := by
  cases m <;> rfl
@[simp] theorem State.setFrame_opa (m : Monitor) (p : Pixmap) :
    (s.setFrame m p).opa = s.opa := by
  cases m <;> rfl
@[simp] theorem State.setFrame_opb (m : Monitor) (p : Pixmap) :
    (s.setFrame m p).opb = s.opb := by
  cases m <;> rfl
@[simp] theorem State.setFrame_roadctl (m : Monitor) (p : Pixmap) :
    (s.setFrame m p).roadctl = s.roadctl := by
  cases m <;> rfl
@[simp] theorem State.setFrame_ipa (m : Monitor) (p : Pixmap) :
    (s.setFrame m p).ipa = s.ipa := by
  cases m <;> rfl
@[simp] theorem State.setFrame_ipb (m : Monitor) (p : Pixmap) :
    (s.setFrame m p).ipb = s.ipb := by
  cases m <;> rfl
@[simp] theorem State.setFrame_ipc (m : Monitor) (p : Pixmap) :
    (s.setFrame m p).ipc = s.ipc := by
  cases m <;> rfl
@[simp] theorem State.setFrame_collision (m : Monitor) (p : Pixmap) :
    (s.setFrame m p).collision = s.collision := by
  cases m <;> rfl
@[simp] theorem State.setFrame_sprbuf (m : Monitor) (p : Pixmap) :
    (s.setFrame m p).sprbuf = s.sprbuf := by
  cases m <;> rfl
@[simp] theorem State.setFrame_offroadDrawn (m : Monitor) (p : Pixmap) :
    (s.setFrame m p).offroadDrawn = s.offroadDrawn := by
  cases m <;> rfl
@[simp] theorem State.setFrame_sprparam (m : Monitor) (p : Pixmap) :
    (s.setFrame m p).sprparam = s.sprparam := by
  cases m <;> rfl
@[simp] theorem State.setFrame_sprxmap (m : Monitor) (p : Pixmap) :
    (s.setFrame m p).sprxmap = s.sprxmap := by
  cases m <;> rfl
@[simp] theorem State.setFrame_roadspr (m : Monitor) (p : Pixmap) :
    (s.setFrame m p).roadspr = s.roadspr := by
  cases m <;> rfl
@[simp] theorem State.setFrame_rgbtable (m : Monitor) (p : Pixmap) :
    (s.setFrame m p).rgbtable = s.rgbtable := by
  cases m <;> rfl
@[simp] theorem State.setFrame_colortable (m : Monitor) (p : Pixmap) :
    (s.setFrame m p).colortable = s.colortable := by
  cases m <;> rfl
@[simp] theorem State.setFrame_nvram (m : Monitor) (p : Pixmap) :
    (s.setFrame m p).nvram = s.nvram := by
  cases m <;> rfl
@[simp] theorem State.setFrame_pending (m : Monitor) (p : Pixmap) :
    (s.setFrame m p).pending = s.pending := by
  cases m <;> rfl
@[simp] theorem State.setFrame_inputs (m : Monitor) (p : Pixmap) :
    (s.setFrame m p).inputs = s.inputs := by
  cases m <;> rfl
@[simp] theorem State.setFrame_trace (m : Monitor) (p : Pixmap) :
    (s.setFrame m p).trace = s.trace := by
  cases m <;> rfl
@[simp] theorem State.setFrame_clock (m : Monitor) (p : Pixmap) :
    (s.setFrame m p).clock = s.clock := by
  cases m <;> rfl
@[simp] theorem State.setFrame_resetAt (m : Monitor) (p : Pixmap) :
    (s.setFrame m p).resetAt = s.resetAt := by
  cases m <;> rfl

@[simp] theorem State.setFrame_frame (m : Monitor) (p : Pixmap) : (s.setFrame m p).frame m = p := by
  cases m <;> rfl
theorem State.setFrame_frame_ne (m m' : Monitor) (p : Pixmap) (h : m' ≠ m) :
    (s.setFrame m p).frame m' = s.frame m' := by
  cases m <;> cases m' <;> first | rfl | exact absurd rfl h
@[simp] theorem State.setFrame_vis (m m' : Monitor) (p : Pixmap) :
    (s.setFrame m p).vis m' = s.vis m' := by
  cases m <;> cases m' <;> rfl

/-! ### Taking a request -/

@[simp] theorem State.takeRequest_cfg (r : Request) (rest : List Request) :
    (takeRequest s r rest).cfg = s.cfg := rfl
@[simp] theorem State.takeRequest_ppi (r : Request) (rest : List Request) :
    (takeRequest s r rest).ppi = s.ppi := rfl
@[simp] theorem State.takeRequest_modeSelector (r : Request) (rest : List Request) :
    (takeRequest s r rest).modeSelector = s.modeSelector := rfl
@[simp] theorem State.takeRequest_registers (r : Request) (rest : List Request) :
    (takeRequest s r rest).registers = s.registers := rfl
@[simp] theorem State.takeRequest_soundlatch (r : Request) (rest : List Request) :
    (takeRequest s r rest).soundlatch = s.soundlatch := rfl
@[simp] theorem State.takeRequest_soundlatch2 (r : Request) (rest : List Request) :
    (takeRequest s r rest).soundlatch2 = s.soundlatch2 := rfl
@[simp] theorem State.takeRequest_speechReset (r : Request) (rest : List Request) :
    (takeRequest s r rest).speechReset = s.speechReset := rfl
@[simp] theorem State.takeRequest_speechStart (r : Request) (rest : List Request) :
    (takeRequest s r rest).speechStart = s.speechStart := rfl
@[simp] theorem State.takeRequest_speechVcu (r : Request) (rest : List Request) :
    (takeRequest s r rest).speechVcu = s.speechVcu := rfl
@[simp] theorem State.takeRequest_sndCpuReset (r : Request) (rest : List Request) :
    (takeRequest s r rest).sndCpuReset = s.sndCpuReset := rfl
@[simp] theorem State.takeRequest_tiles (r : Request) (rest : List Request) :
    (takeRequest s r rest).tiles = s.tiles := rfl
@[simp] theorem State.takeRequest_spr0 (r : Request) (rest : List Request) :
    (takeRequest s r rest).spr0 = s.spr0 := rfl
@[simp] theorem State.takeRequest_spr1 (r : Request) (rest : List Request) :
    (takeRequest s r rest).spr1 = s.spr1 := rfl
@[simp] theorem State.takeRequest_scroll (r : Request) (rest : List Request) :
    (takeRequest s r rest).scroll = s.scroll := rfl
@[simp] theorem State.takeRequest_bsctrl (r : Request) (rest : List Request) :
    (takeRequest s r rest).bsctrl = s.bsctrl := rfl
@[simp] theorem State.takeRequest_bs2ctrl (r : Request) (rest : List Request) :
    (takeRequest s r rest).bs2ctrl = s.bs2ctrl := rfl
@[simp] theorem State.takeRequest_palbank (r : Request) (rest : List Request) :
    (takeRequest s r rest).palbank = s.palbank := rfl
@[simp] theorem State.takeRequest_opa (r : Request) (rest : List Request) :
    (takeRequest s r rest).opa = s.opa := rfl
@[simp] theorem State.takeRequest_opb (r : Request) (rest : List Request) :
    (takeRequest s r rest).opb = s.opb := rfl
@[simp] theorem State.takeRequest_roadctl (r : Request) (rest : List Request) :
    (takeRequest s r rest).roadctl = s.roadctl := rfl
@[simp] theorem State.takeRequest_ipa (r : Request) (rest : List Request) :
    (takeRequest s r rest).ipa = s.ipa := rfl
@[simp] theorem State.takeRequest_ipb (r : Request) (rest : List Request) :
    (takeRequest s r rest).ipb = s.ipb := rfl
@[simp] theorem State.takeRequest_ipc (r : Request) (rest : List Request) :
    (takeRequest s r rest).ipc = s.ipc := rfl
@[simp] theorem State.takeRequest_collision (r : Request) (rest : List Request) :
    (takeRequest s r rest).collision = s.collision := rfl
@[simp] theorem State.takeRequest_sprbuf (r : Request) (rest : List Request) :
    (takeRequest s r rest).sprbuf = s.sprbuf := rfl
@[simp] theorem State.takeRequest_offroadDrawn (r : Request) (rest : List Request) :
    (takeRequest s r rest).offroadDrawn = s.offroadDrawn := rfl
@[simp] theorem State.takeRequest_sprparam (r : Request) (rest : List Request) :
    (takeRequest s r rest).sprparam = s.sprparam := rfl
@[simp] theorem State.takeRequest_sprxmap (r : Request) (rest : List Request) :
    (takeRequest s r rest).sprxmap = s.sprxmap := rfl
@[simp] theorem State.takeRequest_roadspr (r : Request) (rest : List Request) :
    (takeRequest s r rest).roadspr = s.roadspr := rfl
@[simp] theorem State.takeRequest_rgbtable (r : Request) (rest : List Request) :
    (takeRequest s r rest).rgbtable = s.rgbtable := rfl
@[simp] theorem State.takeRequest_colortable (r : Request) (rest : List Request) :
    (takeRequest s r rest).colortable = s.colortable := rfl
@[simp] theorem State.takeRequest_frameTop (r : Request) (rest : List Request) :
    (takeRequest s r rest).frameTop = s.frameTop := rfl
@[simp] theorem State.takeRequest_frameBottom (r : Request) (rest : List Request) :
    (takeRequest s r rest).frameBottom = s.frameBottom := rfl
@[simp] theorem State.takeRequest_nvram (r : Request) (rest : List Request) :
    (takeRequest s r rest).nvram = s.nvram := rfl
@[simp] theorem State.takeRequest_pending (r : Request) (rest : List Request) :
    (takeRequest s r rest).pending = rest := rfl
@[simp] theorem State.takeRequest_inputs (r : Request) (rest : List Request) :
    (takeRequest s r rest).inputs = r.beside := rfl
@[simp] theorem State.takeRequest_trace (r : Request) (rest : List Request) :
    (takeRequest s r rest).trace = s.trace := rfl
@[simp] theorem State.takeRequest_clock (r : Request) (rest : List Request) :
    (takeRequest s r rest).clock = s.clock + 1 := rfl
@[simp] theorem State.takeRequest_resetAt (r : Request) (rest : List Request) :
    (takeRequest s r rest).resetAt = s.resetAt := rfl

end Sys2Proof.Machine
end

