-- ==== Sys2Proof/Laws/Ops.lean ====
section
/-!
SUPPORT. What the shared operations over capabilities, chips, layers and dirty maps do: one lemma per
operation that says everything it can answer, for later proofs to cite.
-/

namespace Sys2Proof.Machine

open Sys2Proof

variable (s : State)

/-! ### Capabilities -/

theorem extRead_present {c : Nat} {p : Port} (h : (c, p) ∈ s.cfg.ppiRd) :
    extRead s c p = (s.answer 0, s.emit (.extRead c p)) := by simp [extRead, h]

theorem extRead_absent {c : Nat} {p : Port} (h : (c, p) ∉ s.cfg.ppiRd) :
    extRead s c p = (0x00, s) := by simp [extRead, h]

theorem extWrite_present {c : Nat} {p : Port} (v : Byte) (h : (c, p) ∈ s.cfg.ppiWr) :
    extWrite s c p v = s.emit (.extWrite c p v) := by simp [extWrite, h]

theorem extWrite_absent {c : Nat} {p : Port} (v : Byte) (h : (c, p) ∉ s.cfg.ppiWr) :
    extWrite s c p v = s := by simp [extWrite, h]

theorem extRead_cases (c : Nat) (p : Port) :
    extRead s c p = (s.answer 0, s.emit (.extRead c p)) ∨ extRead s c p = (0x00, s) := by
  unfold extRead; split <;> simp

theorem extWrite_cases (c : Nat) (p : Port) (v : Byte) :
    extWrite s c p v = s.emit (.extWrite c p v) ∨ extWrite s c p v = s := by
  unfold extWrite; split <;> simp

theorem mainMemRead_cases (a : Nat) :
    mainMemRead s a = (s.answer 0, s.emit (.mainMemRead a)) ∨ mainMemRead s a = (0x00, s) := by
  unfold mainMemRead; split <;> simp

theorem mainMemWrite_cases (a : Nat) (v : Byte) :
    mainMemWrite s a v = s.emit (.mainMemWrite a v) ∨ mainMemWrite s a v = s := by
  unfold mainMemWrite; split <;> simp

theorem inputPort_cases (i : Nat) :
    inputPort s i = (s.answer 0, s.emit (.inputPort i)) ∨ inputPort s i = (0x00, s) := by
  unfold inputPort; split <;> simp

theorem speechBusy_cases :
    speechBusy s = ((s.answer 1).getLsbD 0, s.emit .speechBusy) ∨ speechBusy s = (false, s) := by
  unfold speechBusy; split <;> simp

theorem speechLine_cases (line : SpeechLine) (v : Byte) :
    speechLine s line v = s.emit (.speechLine line v) ∨ speechLine s line v = s := by
  unfold speechLine; split <;> simp

theorem soundCpuReset_cases (b : BitVec 1) :
    soundCpuReset s b = s.emit (.soundCpuReset b) ∨ soundCpuReset s b = s := by
  unfold soundCpuReset; split <;> simp

/-! ### PPI chips (R142) -/

theorem chip?_eq_some {c : BitVec 3} {ch : Chip} :
    s.chip? c = some ch ↔ c.toNat < s.cfg.nchip ∧ s.ppi[c.toNat]? = some ch := by
  unfold State.chip?; split_ifs with h <;> simp [h]

theorem chip?_out_of_range {c : BitVec 3} (h : s.cfg.nchip ≤ c.toNat) : s.chip? c = none := by
  simp [State.chip?, Nat.not_lt.2 h]

theorem chip?_mem {c : BitVec 3} {ch : Chip} (h : s.chip? c = some ch) : ch ∈ s.ppi :=
  List.mem_of_getElem? ((chip?_eq_some s).1 h).2

theorem setChip_getElem? {c : BitVec 3} {ch : Chip} (new : Chip) (h : s.chip? c = some ch) :
    (s.setChip c new).ppi[c.toNat]? = some new := by
  have := (List.getElem?_eq_some_iff.1 ((chip?_eq_some s).1 h).2).1
  simp [this]

/-- What a read of port A or B can answer (R144, R145). -/
theorem readPort_next {c : BitVec 3} {p : Port} {t : State} (h : readPort c p s = .next t) :
    (s.chip? c = none ∧ t = s.ret 0x00) ∨
    (∃ ch, s.chip? c = some ch ∧ ch.io p = 0x00 ∧ t = s.ret (ch.latch p)) ∨
    (∃ ch, s.chip? c = some ch ∧ ch.io p ≠ 0x00 ∧
      t = (extRead s c.toNat p).2.ret (extRead s c.toNat p).1) := by
  unfold readPort oorRead at h
  split at h
  · next hc => exact .inl ⟨hc, by simpa using h.symm⟩
  · next ch hc =>
    split_ifs at h with hio
    · exact .inr (.inl ⟨ch, hc, hio, by simpa using h.symm⟩)
    · exact .inr (.inr ⟨ch, hc, hio, by simpa using h.symm⟩)

/-- What a data write can answer (R148 to R150). -/
theorem writePort_next {c : BitVec 3} {p : Port} {d : Byte} {t : State}
    (h : writePort c p d s = .next t) :
    (s.chip? c = none ∧ t = s) ∨
    (∃ ch, s.chip? c = some ch ∧
      t = emitPort (s.setChip c (ch.setLatch p d)) c (ch.setLatch p d) p) := by
  unfold writePort oorWrite at h
  split at h
  · next hc => exact .inl ⟨hc, by simpa using h.symm⟩
  · next ch hc => exact .inr ⟨ch, hc, by simpa using h.symm⟩

@[simp] theorem Chip.setLatch_io (ch : Chip) (p q : Port) (v : Byte) :
    (ch.setLatch p v).io q = ch.io q := by
  cases p <;> cases q <;> rfl

@[simp] theorem Chip.setLatch_latch (ch : Chip) (p : Port) (v : Byte) :
    (ch.setLatch p v).latch p = v := by
  cases p <;> rfl

theorem initChips_length (n : Nat) (ppi : List Chip) : (initChips n ppi).length = ppi.length := by
  simp [initChips]

/-- What PPI.INIT leaves at each position of the bank (R143). -/
theorem initChips_getElem? (n : Nat) (ppi : List Chip) (c : Nat) :
    (initChips n ppi)[c]? = ppi[c]?.map fun ch => if c < n then Chip.initial else ch := by
  simp [initChips, List.getElem?_map, List.getElem?_zipIdx, Function.comp_def]

/-! ### Protection actions (R172) -/

/-- What an action can answer as a read. -/
theorem protReadAction_next {act : ProtAction} {o : BitVec 4} {t : State}
    (h : protReadAction act o s = .next t) :
    (∃ v, t = s.ret v) ∨ ∃ a, t = (mainMemRead s a).2.ret (mainMemRead s a).1 := by
  unfold protReadAction at h
  split at h
  · exact .inr ⟨_, by simpa using h.symm⟩
  all_goals exact .inl ⟨_, by simpa using h.symm⟩

/-- What an action can answer as a write. -/
theorem protWriteAction_next {act : ProtAction} {o : BitVec 4} {d : Byte} {t : State}
    (h : protWriteAction act o d s = .next t) :
    t = s ∨ (∃ v, t = s.setRegister o v) ∨ ∃ a, t = mainMemWrite s a d := by
  unfold protWriteAction at h
  split at h
  · exact .inr (.inr ⟨_, by simpa using h.symm⟩)
  · exact .inr (.inl ⟨_, by simpa using h.symm⟩)
  · exact .inr (.inl ⟨_, by simpa using h.symm⟩)
  · exact .inl (by simpa using h.symm)

theorem protReadAction_goes_on (act : ProtAction) (o : BitVec 4) :
    ∃ t, protReadAction act o s = .next t := by
  unfold protReadAction; split <;> exact ⟨_, rfl⟩

theorem protWriteAction_goes_on (act : ProtAction) (o : BitVec 4) (d : Byte) :
    ∃ t, protWriteAction act o d s = .next t := by
  unfold protWriteAction; split <;> exact ⟨_, rfl⟩

/-! ### Layers -/

theorem tile?_eq_some {L : Nat} {tc : TileCfg} {tl : TileLayer} :
    s.tile? L = some (tc, tl) ↔ s.cfg.tiles[L]? = some tc ∧ s.tiles[L]? = some tl := by
  unfold State.tile?
  cases s.cfg.tiles[L]? <;> cases s.tiles[L]? <;> simp

@[simp] theorem State.setSprite_sprite (S : SpriteId) (sl : SpriteLayer) :
    (s.setSprite S sl).sprite S = sl := by
  cases S <;> rfl

/-! ### Dirty maps -/

@[simp] theorem markDirty_length (d : List Bool) (n : Nat) :
    (markDirty d n).length = d.length := by
  simp [markDirty]

@[simp] theorem markAll_length (d : List Bool) : (markAll d).length = d.length := by
  simp [markAll]

@[simp] theorem clearFrom_length (d : List Bool) (n k : Nat) :
    (clearFrom d n k).length = d.length := by
  induction k with
  | zero => rfl
  | succ k ih => simp [clearFrom, ih]

theorem dirtyBit_markDirty_same {d : List Bool} {n : Nat} (h : n < d.length) :
    dirtyBit (markDirty d n) n = true := by
  simp [dirtyBit, markDirty, h]

theorem dirtyBit_markDirty_ne {d : List Bool} {n m : Nat} (h : m ≠ n) :
    dirtyBit (markDirty d n) m = dirtyBit d m := by
  simp [dirtyBit, markDirty, List.getElem?_set_ne (Ne.symm h)]

theorem dirtyBit_markAll {d : List Bool} {n : Nat} (h : n < d.length) :
    dirtyBit (markAll d) n = true := by
  simp [dirtyBit, markAll, h]

/-- Which bits a clear leaves. -/
theorem dirtyBit_clearFrom (d : List Bool) (n k m : Nat) :
    dirtyBit (clearFrom d n k) m = (dirtyBit d m && !(decide (n ≤ m) && decide (m < n + k))) := by
  induction k with
  | zero => simp only [clearFrom]; by_cases h : n ≤ m <;> simp [h, Nat.not_lt.2]
  | succ k ih =>
    rw [clearFrom]
    by_cases h : m = n + k
    · subst h
      by_cases hl : n + k < (clearFrom d n k).length <;> simp_all [dirtyBit]
    · have : dirtyBit ((clearFrom d n k).set (n + k) false) m = dirtyBit (clearFrom d n k) m := by
        simp [dirtyBit, List.getElem?_set_ne (Ne.symm h)]
      rw [this, ih]
      congr 2
      by_cases hm : n ≤ m
      · simp only [hm, decide_true, Bool.true_and, decide_eq_decide]; omega
      · simp [hm]

/-- The value-equality rule of R211 and R231: what a tracked store leaves. -/
theorem storeTracked_cases (m : Memory) (d : List Bool) (n : Nat) (v : Byte) :
    (v = m.read n ∧ storeTracked m d n v = (m, d)) ∨
    (v ≠ m.read n ∧ storeTracked m d n v = (m.write n v, markDirty d n)) := by
  unfold storeTracked; split_ifs with h <;> simp [h]

theorem storeTracked_wf {m : Memory} {d : List Bool} {n : Nat} {v : Byte} (h : m.wf) :
    (storeTracked m d n v).1.wf := by
  rcases storeTracked_cases m d n v with ⟨_, e⟩ | ⟨_, e⟩ <;> rw [e]
  exacts [h, m.write_wf n v h]

@[simp] theorem storeTracked_dirty_length (m : Memory) (d : List Bool) (n : Nat) (v : Byte) :
    (storeTracked m d n v).2.length = d.length := by
  rcases storeTracked_cases m d n v with ⟨_, e⟩ | ⟨_, e⟩ <;> simp [e]

/-- A palette-bank toggle changes the dirty maps of the layers and nothing else (R218). -/
theorem markMonitor_frame (m : Monitor) :
    markMonitor s m = { s with
      tiles := (markMonitor s m).tiles
      spr0 := { s.spr0 with dirty := (markMonitor s m).spr0.dirty }
      spr1 := { s.spr1 with dirty := (markMonitor s m).spr1.dirty } } := by
  unfold markMonitor
  congr <;> split_ifs <;> rfl

/-- The tile layers after a palette-bank toggle (R218). -/
theorem markMonitor_tile (m : Monitor) (L : Nat) :
    (markMonitor s m).tiles[L]? = s.tiles[L]?.map fun tl =>
      match s.cfg.tiles[L]? with
      | some tc => if tc.mon = m then { tl with dirty := markAll tl.dirty } else tl
      | none => tl := by
  simp only [markMonitor, List.getElem?_map, List.getElem?_zipIdx, Option.map_map, Nat.zero_add]
  cases s.tiles[L]? <;> rfl

/-! ### The protection ports (R120, R180) -/

/-- A port leads to the lowest of the offsets that stand on it. -/
theorem protTarget_lowest (c : Config) (n : Fin 16)
    (h : ∀ m < n, c.protPort[m] ≠ c.protPort[n]) :
    protTarget c (.ioPort c.protPort[n]) = some (2, 0, BitVec.ofNat 16 n.val) := by
  have : ((List.finRange 16).find? fun m => c.protPort[m] = c.protPort[n]) = some n := by
    refine List.find?_eq_some_iff_getElem.2 ⟨by simp, n.val, by simp, by simp, fun j hj => ?_⟩
    simpa using h ⟨j, by omega⟩ hj
  rw [protTarget, this]
  rfl

/-- What a protection port leads to is one of the sixteen offsets. -/
theorem protTarget_eq_some {c : Config} {a : BusAddress} {x : BitVec 4 × BitVec 3 × BitVec 16}
    (h : protTarget c a = some x) :
    ∃ n : Fin 16, a = .ioPort c.protPort[n] ∧ x = (2, 0, BitVec.ofNat 16 n.val) := by
  cases a with
  | memory _ => cases h
  | ioPort port =>
    obtain ⟨n, hn, rfl⟩ := Option.map_eq_some_iff.1 h
    have hn : c.protPort[n] = port := by simpa using List.find?_some hn
    exact ⟨n, by rw [hn], rfl⟩

/-- An address on no protection port leads to none. -/
theorem protTarget_eq_none {c : Config} {a : BusAddress} (h : ∀ n : Fin 16, a ≠ .ioPort c.protPort[n]) :
    protTarget c a = none := by
  cases hx : protTarget c a with
  | none => rfl
  | some x =>
    obtain ⟨n, ha, _⟩ := protTarget_eq_some hx
    exact absurd ha (h n)

end Sys2Proof.Machine
end

