-- ==== Sys2Proof/Laws/Draw.lean ====
section
/-!
SUPPORT. What drawing into a bitmap does: `paint` is the common form of the pixel loops of
TILE.RENDER, SPR.REFRESH, SEQ.SCROLLCOMP and SPR.COMPOSITE, with one lemma for the pixels a loop
writes, one for those it leaves, and one for every property a single pixel write keeps.
-/

namespace Sys2Proof.Machine

open Sys2Proof

/-! ### Loops -/

theorem foldl_keeps {σ δ : Type} {P : σ → Prop} {f : σ → δ → σ} (l : List δ) (s : σ)
    (hf : ∀ s d, d ∈ l → P s → P (f s d)) (hs : P s) : P (l.foldl f s) := by
  induction l generalizing s with
  | nil => exact hs
  | cons d l ih =>
    exact ih (f s d) (fun s e he => hf s e (List.mem_cons_of_mem _ he))
      (hf s d (List.mem_cons_self ..) hs)

/-- One step of a pixel loop: place `d` writes `w d` at `f d`, or nothing. -/
def paint {δ : Type} (f : δ → Nat × Nat) (w : δ → Option Nat) (p : Pixmap) (d : δ) : Pixmap :=
  match w d with
  | some v => p.set (f d).1 (f d).2 v
  | none => p

theorem paint_keeps {δ : Type} {P : Pixmap → Prop} (hP : ∀ p x y v, P p → P (p.set x y v))
    (f : δ → Nat × Nat) (w : δ → Option Nat) (l : List δ) (p : Pixmap) (h : P p) :
    P (l.foldl (paint f w) p) := by
  refine foldl_keeps l p (fun p d _ hp => ?_) h
  unfold paint
  split
  exacts [hP _ _ _ _ hp, hp]

theorem paint_get_outside {δ : Type} (f : δ → Nat × Nat) (w : δ → Option Nat) (l : List δ)
    (p : Pixmap) (x y : Nat) (h : ∀ d ∈ l, w d ≠ none → f d ≠ (x, y)) :
    (l.foldl (paint f w) p).get x y = p.get x y := by
  refine foldl_keeps (P := fun q => q.get x y = p.get x y) l p (fun q d hd hq => ?_) rfl
  unfold paint
  split
  · next v hv =>
    rw [Pixmap.get_set_ne, hq]
    rintro ⟨rfl, rfl⟩
    exact h d hd (by simp [hv]) rfl
  · exact hq

theorem paint_get_inside {δ : Type} (f : δ → Nat × Nat) (w : δ → Option Nat) (l : List δ)
    (p : Pixmap) (x y v : Nat) (hw : p.wf) (hc : p.covers x y = true)
    (h : ∀ d ∈ l, w d ≠ none → f d = (x, y) → w d = some v)
    (he : ∃ d ∈ l, f d = (x, y) ∧ w d = some v) :
    (l.foldl (paint f w) p).get x y = v := by
  induction l using List.reverseRecOn with
  | nil => simp at he
  | append_singleton l d ih =>
    rw [List.foldl_append, List.foldl_cons, List.foldl_nil]
    have hq : (l.foldl (paint f w) p).wf :=
      paint_keeps (P := Pixmap.wf) (fun p x y v => p.set_wf x y v) f w l p hw
    have hcq : (l.foldl (paint f w) p).covers x y = true :=
      paint_keeps (P := fun q => q.covers x y = true) (fun p x' y' v hp => by simpa using hp) f w l p
        hc
    by_cases hd : w d ≠ none ∧ f d = (x, y)
    · have : w d = some v := h d (by simp) hd.1 hd.2
      unfold paint
      simp only [this, hd.2]
      exact Pixmap.get_set_same _ _ _ _ hq hcq
    · have hl : (l.foldl (paint f w) p).get x y = v := by
        refine ih (fun e hem => h e (by simp [hem])) ?_
        obtain ⟨e, hem, hfe, hwe⟩ := he
        rcases List.mem_append.1 hem with hem | hem
        · exact ⟨e, hem, hfe, hwe⟩
        · rw [List.mem_singleton.1 hem] at hfe hwe
          exact absurd ⟨by simp [hwe], hfe⟩ hd
      have : paint f w (List.foldl (paint f w) p l) d =
          List.foldl (paint f w) p l ∨ f d ≠ (x, y) := by
        by_cases hwd : w d = none
        · left; simp [paint, hwd]
        · right; exact fun e => hd ⟨hwd, e⟩
      rcases this with e | e
      · rw [e, hl]
      · rw [← hl]
        have := paint_get_outside f w [d] (l.foldl (paint f w) p) x y (by simpa using fun _ => e)
        simpa using this

/-! ### Positions -/

theorem mem_cellPositions {w h : Nat} {rc : Nat × Nat} :
    rc ∈ cellPositions w h ↔ rc.1 < h ∧ rc.2 < w := by
  obtain ⟨r, c⟩ := rc
  simp [cellPositions]

theorem mem_rectPixels {r : Rect} {xy : Nat × Nat} :
    xy ∈ rectPixels r ↔
      r.x ≤ xy.1 ∧ xy.1 < r.x + r.w ∧ r.y ≤ xy.2 ∧ xy.2 < r.y + r.h := by
  obtain ⟨x, y⟩ := xy
  simp only [rectPixels, List.mem_flatMap, List.mem_range, List.mem_map, Prod.mk.injEq]
  constructor
  · rintro ⟨j, hj, i, hi, rfl, rfl⟩; omega
  · rintro ⟨h1, h2, h3, h4⟩
    exact ⟨y - r.y, by omega, x - r.x, by omega, by omega, by omega⟩

theorem rectHolds_iff {r : Rect} {x y : Int} :
    rectHolds r x y = true ↔
      (r.x : Int) ≤ x ∧ x < r.x + r.w ∧ (r.y : Int) ≤ y ∧ y < r.y + r.h := by
  simp [rectHolds, and_assoc]

/-! ### Cells (R216, R235) -/

/-- Where pixel (r, c) of a cell at (x0, y0) lands: a flip mirrors the columns. -/
def cellTarget (w : Nat) (flip : Bool) (x0 y0 : Nat) (rc : Nat × Nat) : Nat × Nat :=
  (x0 + if flip then w - 1 - rc.2 else rc.2, y0 + rc.1)

theorem drawCell_eq_paint (w h : Nat) (pixel : Nat → Nat → Nat) (flip : Bool) (x0 y0 : Nat)
    (p : Pixmap) :
    drawCell w h pixel flip x0 y0 p =
      (cellPositions w h).foldl
        (paint (cellTarget w flip x0 y0) fun rc => some (pixel rc.1 rc.2)) p := rfl

theorem drawCell_keeps {P : Pixmap → Prop} (hP : ∀ p x y v, P p → P (p.set x y v)) (w h : Nat)
    (pixel : Nat → Nat → Nat) (flip : Bool) (x0 y0 : Nat) (p : Pixmap) (hp : P p) :
    P (drawCell w h pixel flip x0 y0 p) := by
  rw [drawCell_eq_paint]
  exact paint_keeps hP _ _ _ _ hp

/-- A pixel of the cell. -/
theorem drawCell_get_inside {w h : Nat} (pixel : Nat → Nat → Nat) (flip : Bool) (x0 y0 : Nat)
    (p : Pixmap) {r c : Nat} (hr : r < h) (hc : c < w) (hw : p.wf)
    (hcov : p.covers (cellTarget w flip x0 y0 (r, c)).1 (cellTarget w flip x0 y0 (r, c)).2 = true) :
    (drawCell w h pixel flip x0 y0 p).get (cellTarget w flip x0 y0 (r, c)).1
      (cellTarget w flip x0 y0 (r, c)).2 = pixel r c := by
  rw [drawCell_eq_paint]
  refine paint_get_inside _ _ _ _ _ _ _ hw hcov ?_ ⟨(r, c), mem_cellPositions.2 ⟨hr, hc⟩, rfl, rfl⟩
  rintro ⟨r', c'⟩ hm _ he
  obtain ⟨hr', hc'⟩ := mem_cellPositions.1 hm
  simp only [cellTarget, Prod.mk.injEq] at he hc'
  have : r' = r ∧ c' = c := by cases flip <;> simp at he <;> omega
  simp [this]

/-- A pixel beside the cell. -/
theorem drawCell_get_outside {w h : Nat} (pixel : Nat → Nat → Nat) (flip : Bool) (x0 y0 : Nat)
    (p : Pixmap) {x y : Nat} (hxy : x < x0 ∨ x0 + w ≤ x ∨ y < y0 ∨ y0 + h ≤ y) :
    (drawCell w h pixel flip x0 y0 p).get x y = p.get x y := by
  rw [drawCell_eq_paint]
  refine paint_get_outside _ _ _ _ _ _ ?_
  rintro ⟨r, c⟩ hm _ he
  obtain ⟨hr, hc⟩ := mem_cellPositions.1 hm
  simp only [cellTarget, Prod.mk.injEq] at he hr hc
  cases flip <;> simp at he <;> omega

/-! ### Rendering and refreshing (R213, R233) -/

/-- What one iteration of TILE.RENDER does to its layer: the video RAM is only read. -/
theorem renderPair_cases (s : State) (tc : TileCfg) (tl : TileLayer) (t : Nat) :
    renderPair s tc tl t = tl ∨
    renderPair s tc tl t = { tl with
      bitmap := drawTile s tc t (tl.vram.read (2 * t)) (tl.vram.read (2 * t + 1)) tl.bitmap
      dirty := clearFrom tl.dirty (2 * t) 2 } := by
  unfold renderPair; split_ifs <;> simp

theorem renderPair_vram (s : State) (tc : TileCfg) (tl : TileLayer) (t : Nat) :
    (renderPair s tc tl t).vram = tl.vram := by
  rcases renderPair_cases s tc tl t with h | h <;> rw [h]

/-- A pair is clean after its iteration, whatever it was before. -/
theorem renderPair_dirtyBit (s : State) (tc : TileCfg) (tl : TileLayer) (t n : Nat) :
    dirtyBit (renderPair s tc tl t).dirty n =
      (dirtyBit tl.dirty n && !(decide (2 * t ≤ n) && decide (n < 2 * t + 2))) := by
  unfold renderPair
  split_ifs with h
  · exact dirtyBit_clearFrom _ _ _ _
  · simp only [Bool.or_eq_true, not_or, Bool.not_eq_true] at h
    by_cases hn : n = 2 * t
    · simp [hn, h.1]
    · by_cases hn' : n = 2 * t + 1
      · simp [hn', h.2]
      · have : ¬(2 * t ≤ n ∧ n < 2 * t + 2) := by omega
        rw [← Bool.decide_and, decide_eq_false this]; simp

/-- Any property of a layer that drawing a pixel and clearing dirty bits keep is kept by
TILE.RENDER. -/
theorem renderLayer_keeps {P : TileLayer → Prop} (s : State) (tc : TileCfg) (tl : TileLayer)
    (hP : ∀ tl t, P tl → P (renderPair s tc tl t)) (h : P tl) : P (renderLayer s tc tl) :=
  foldl_keeps _ _ (fun tl t _ ht => hP tl t ht) h

@[simp] theorem renderLayer_vram (s : State) (tc : TileCfg) (tl : TileLayer) :
    (renderLayer s tc tl).vram = tl.vram :=
  renderLayer_keeps (P := fun u => u.vram = tl.vram) s tc tl
    (fun u t hu => (renderPair_vram s tc u t).trans hu) rfl

/-- What one iteration of SPR.REFRESH does to its layer: the sprite RAM is only read. -/
theorem refreshCell_cases (s : State) (sc : SpriteCfg) (sl : SpriteLayer) (k : Nat) :
    refreshCell s sc sl k = sl ∨
    refreshCell s sc sl k = { sl with
      bitmap := drawCell sc.cellW sc.cellH (spritePixel s sc (spriteCell s sc sl.ram k))
        (spriteCell s sc sl.ram k).flip (sc.cellW * (k % 16)) (sc.cellH * (k / 16)) sl.bitmap
      dirty := clearFrom sl.dirty (4 * k) 4 } := by
  unfold refreshCell; split_ifs <;> simp

theorem refreshLayer_keeps {P : SpriteLayer → Prop} (s : State) (sc : SpriteCfg)
    (sl : SpriteLayer) (hP : ∀ sl k, P sl → P (refreshCell s sc sl k)) (h : P sl) :
    P (refreshLayer s sc sl) :=
  foldl_keeps _ _ (fun sl k _ hk => hP sl k hk) h

@[simp] theorem refreshLayer_ram (s : State) (sc : SpriteCfg) (sl : SpriteLayer) :
    (refreshLayer s sc sl).ram = sl.ram :=
  refreshLayer_keeps (P := fun u => u.ram = sl.ram) s sc sl
    (fun u k hu => by rcases refreshCell_cases s sc u k with h | h <;> rw [h] <;> exact hu) rfl

/-! ### Composites (R239, R244, R325) -/

/-- The pixel a `Blit` takes for a destination, where there is an opaque one (R239). -/
def blitSource (t : BsTransform) (src : Pixmap) (sbw sbh tr : Nat) (d : Nat × Nat) : Option Nat :=
  let u := sourceOf t.startx t.incx d.1
  let v := sourceOf t.starty t.incy d.2
  if (0 ≤ u ∧ u < sbw ∧ 0 ≤ v ∧ v < sbh) ∧ src.get u.toNat v.toNat ≠ tr then
    some (src.get u.toNat v.toNat)
  else none

theorem blitPixel_eq_paint (t : BsTransform) (src : Pixmap) (sbw sbh tr : Nat) :
    blitPixel t src sbw sbh tr = paint id (blitSource t src sbw sbh tr) := by
  funext p d
  simp only [blitPixel, paint, blitSource, id]
  split_ifs <;> simp_all

/-- The pixel the tile composite of a layer shows at a destination (R325). -/
def scrollSource (s : State) (L : Nat) (tc : TileCfg) (src : Pixmap) (d : Nat × Nat) : Option Nat :=
  let by' := (d.2 : Int) - tc.orgY
  let bx := scrolledColumn s L tc ((d.1 : Int) - tc.orgX) by'.toNat
  if (0 ≤ by' ∧ by' < (8 * tc.rows : Nat)) ∧ 0 ≤ bx ∧ bx < (8 * tc.cols : Nat) then
    some (src.get bx.toNat by'.toNat)
  else none

theorem scrollPixel_eq_paint (s : State) (L : Nat) (tc : TileCfg) (src : Pixmap) :
    scrollPixel s L tc src = paint id (scrollSource s L tc src) := by
  funext p d
  simp only [scrollPixel, paint, scrollSource, id]
  by_cases hy : 0 ≤ (d.2 : Int) - tc.orgY ∧ (d.2 : Int) - tc.orgY < (8 * tc.rows : Nat)
  · rw [if_pos hy]
    simp only [hy, true_and, and_self]
    split_ifs <;> rfl
  · rw [if_neg hy, if_neg fun h => hy h.1]

/-- Where source pixel (v, u) of sprite layer 1 lands, and what it shows there (R244). -/
def placeTarget (sb2w : Nat) (sx sy : Int) (flip : Bool) (vu : Nat × Nat) : Nat × Nat :=
  ((sx + (if flip then sb2w - 1 - vu.2 else vu.2 : Nat)).toNat, (sy + vu.1).toNat)

/-- The opaque visible pixel of layer 1 from source (v, u), if it is one (R244). -/
def placeSource (vis : Rect) (src : Pixmap) (sb2w tr : Nat) (sx sy : Int) (flip : Bool)
    (vu : Nat × Nat) : Option Nat :=
  if rectHolds vis (sx + (if flip then sb2w - 1 - vu.2 else vu.2 : Nat)) (sy + vu.1) ∧
      src.get vu.2 vu.1 ≠ tr then
    some (src.get vu.2 vu.1)
  else none

theorem placePixel_eq_paint (vis : Rect) (src : Pixmap) (sb2w tr : Nat) (sx sy : Int)
    (flip : Bool) :
    placePixel vis src sb2w tr sx sy flip =
      paint (placeTarget sb2w sx sy flip) (placeSource vis src sb2w tr sx sy flip) := by
  funext p vu
  simp only [placePixel, paint, placeTarget, placeSource]
  split_ifs <;> simp_all

end Sys2Proof.Machine
end

