-- ==== Sys2Proof/Laws/Road.lean ====
section
/-!
SUPPORT. What the parts of a scanline sweep change (R261, R284): the collision accumulator, the
working state of the scanline, and in the full pass the frames; the accumulator only gains bits.
-/

namespace Sys2Proof.Machine

open Sys2Proof

/-- Only what a scanline sweep may write differs between `s` and `t` (R284(e)). -/
def SweepFrame (s t : State) : Prop :=
  t = { s with
    collision := t.collision
    sprbuf := t.sprbuf
    offroadDrawn := t.offroadDrawn
    frameTop := t.frameTop
    frameBottom := t.frameBottom }

theorem SweepFrame.refl (s : State) : SweepFrame s s := rfl

theorem SweepFrame.trans {s t u : State} (h : SweepFrame s t) (h' : SweepFrame t u) :
    SweepFrame s u := by
  unfold SweepFrame at *
  rw [h', h]

/-- A sweep loop keeps what each of its steps keeps. -/
theorem SweepFrame.foldl {δ : Type} {f : State → δ → State} (l : List δ) (s : State)
    (hf : ∀ s d, SweepFrame s (f s d)) : SweepFrame s (l.foldl f s) :=
  foldl_keeps (P := SweepFrame s) l s (fun _ d _ h => h.trans (hf _ d)) (SweepFrame.refl s)

theorem drawSpriteGroup_frame (s : State) (offroad : Bool) (y : Nat) :
    SweepFrame s (drawSpriteGroup s offroad y) := rfl

@[simp] theorem drawSpriteGroup_collision (s : State) (offroad : Bool) (y : Nat) :
    (drawSpriteGroup s offroad y).collision = s.collision := rfl

/-- Drawing a row reads the board and the column masks alone (R275). -/
theorem drawRow_congr {s t : State} (hc : s.cfg = t.cfg) (hx : s.sprxmap = t.sprxmap) :
    drawRow s = drawRow t := by
  have hm : ∀ px, columnMask s px = columnMask t px := fun px => by simp [columnMask, hc, hx]
  funext slot P base fuel n j buf
  induction fuel generalizing n j buf with
  | zero => rfl
  | succ fuel ih => simp only [drawRow, hc, hm, ih]

/-- Drawing a group reads the board, the sprite tables and the sprite buffer alone (R273). -/
theorem drawSpriteGroup_congr {s t : State} (hc : s.cfg = t.cfg) (hp : s.sprparam = t.sprparam)
    (hx : s.sprxmap = t.sprxmap) (hb : s.sprbuf = t.sprbuf) (offroad : Bool) (y : Nat) :
    (drawSpriteGroup s offroad y).sprbuf = (drawSpriteGroup t offroad y).sprbuf := by
  have : drawSlot s y = drawSlot t y := by
    funext buf slot
    simp only [drawSlot, drawSpriteRow, hc, hp, drawRow_congr hc hx]
  simp only [drawSpriteGroup, hc, hb, this]

/-- The off-road trigger fires on the first off-road pixel and at no other (R268). -/
theorem offRoadTrigger_cases (s : State) (y : Nat) (acciar : Bool) :
    (acciar = true ∧ s.offroadDrawn = false ∧
      offRoadTrigger s y acciar = { drawSpriteGroup s true y with offroadDrawn := true }) ∨
    ((acciar = false ∨ s.offroadDrawn = true) ∧ offRoadTrigger s y acciar = s) := by
  unfold offRoadTrigger
  cases acciar <;> cases s.offroadDrawn <;> simp

theorem offRoadTrigger_frame (s : State) (y : Nat) (acciar : Bool) :
    SweepFrame s (offRoadTrigger s y acciar) := by
  rcases offRoadTrigger_cases s y acciar with ⟨_, _, h⟩ | ⟨_, h⟩ <;> rw [h] <;> rfl

@[simp] theorem offRoadTrigger_collision (s : State) (y : Nat) (acciar : Bool) :
    (offRoadTrigger s y acciar).collision = s.collision := by
  rcases offRoadTrigger_cases s y acciar with ⟨_, _, h⟩ | ⟨_, h⟩ <;> rw [h] ; rfl

theorem orCollision_frame (s : State) (a b : Nibble) : SweepFrame s (orCollision s a b) := rfl

@[simp] theorem orCollision_collision (s : State) (a b : Nibble) :
    (orCollision s a b).collision = s.collision ||| (a &&& b) := rfl

theorem writeRoadPixel_frame (s : State) (y px babit coch : Nat) (sprpri : Nibble) :
    SweepFrame s (writeRoadPixel s y px babit coch sprpri) := by
  unfold writeRoadPixel SweepFrame
  cases s.cfg.road.mon <;> rfl

@[simp] theorem writeRoadPixel_collision (s : State) (y px babit coch : Nat) (sprpri : Nibble) :
    (writeRoadPixel s y px babit coch sprpri).collision = s.collision := by
  simp [writeRoadPixel]

theorem roadPixelStep_frame (minimal : Bool) (y va x : Nat) (s : State) (i : Nat) :
    SweepFrame s (roadPixelStep minimal y va x s i) := by
  unfold roadPixelStep
  cases minimal
  · exact ((offRoadTrigger_frame s y _).trans (orCollision_frame _ _ _)).trans
      (writeRoadPixel_frame _ _ _ _ _ _)
  · exact (offRoadTrigger_frame s y _).trans (orCollision_frame _ _ _)

theorem roadChunk_frame (minimal : Bool) (y va : Nat) (s : State) (x : Nat) :
    SweepFrame s (roadChunk minimal y va s x) :=
  SweepFrame.foldl _ _ fun s i => roadPixelStep_frame minimal y va x s i

/-- What a scanline sweep may change (R284(e)). -/
theorem roadLine_frame (minimal : Bool) (y : Nat) (s : State) :
    SweepFrame s (roadLine minimal y s) := by
  unfold roadLine
  split_ifs
  · rfl
  · rfl
  · exact (SweepFrame.trans (t := beginScanline s y) rfl
      (SweepFrame.foldl _ _ fun s x => roadChunk_frame minimal y (vertAddr _ y) s x)).trans rfl

/-! ### The accumulator only gains bits (R269) -/

/-- Every bit of `a` is a bit of `b`. -/
def BitsWithin (a b : Nibble) : Prop := a ||| b = b

theorem BitsWithin.refl (a : Nibble) : BitsWithin a a := by simp [BitsWithin]

theorem BitsWithin.trans {a b c : Nibble} (h : BitsWithin a b) (h' : BitsWithin b c) :
    BitsWithin a c := by
  unfold BitsWithin at *
  rw [← h', ← BitVec.or_assoc, h]

theorem bitsWithin_or (a b : Nibble) : BitsWithin a (a ||| b) := by
  unfold BitsWithin
  rw [← BitVec.or_assoc, BitVec.or_self]

theorem roadPixelStep_gains (minimal : Bool) (y va x : Nat) (s : State) (i : Nat) :
    BitsWithin s.collision (roadPixelStep minimal y va x s i).collision := by
  unfold roadPixelStep
  cases minimal <;> simpa using bitsWithin_or _ _

theorem roadChunk_gains (minimal : Bool) (y va : Nat) (s : State) (x : Nat) :
    BitsWithin s.collision (roadChunk minimal y va s x).collision :=
  foldl_keeps (P := fun t : State => BitsWithin s.collision t.collision) _ _
    (fun _ i _ h => h.trans (roadPixelStep_gains minimal y va x _ i)) (BitsWithin.refl _)

end Sys2Proof.Machine
end

