-- ==== Sys2Proof/Laws/Frames.lean ====
section
/-!
SUPPORT. What each video operation may change, said once (R213, R233, R236, R244, R284, R322 to R325),
and what a step can be.
-/

namespace Sys2Proof.Machine

open Sys2Proof

/-! ### Layers and frames -/

/-- Only tile layers, sprite layers and frames differ between `s` and `t`. -/
def VideoFrame (s t : State) : Prop :=
  t = { s with
    tiles := t.tiles
    spr0 := t.spr0
    spr1 := t.spr1
    frameTop := t.frameTop
    frameBottom := t.frameBottom }

theorem VideoFrame.trans {s t u : State} (h : VideoFrame s t) (h' : VideoFrame t u) :
    VideoFrame s u := by
  unfold VideoFrame at *; rw [h', h]

/-- Only the frames differ between `s` and `t`. -/
def FramesOnly (s t : State) : Prop :=
  t = { s with frameTop := t.frameTop, frameBottom := t.frameBottom }

theorem FramesOnly.trans {s t u : State} (h : FramesOnly s t) (h' : FramesOnly t u) :
    FramesOnly s u := by
  unfold FramesOnly at *; rw [h', h]

theorem FramesOnly.video {s t : State} (h : FramesOnly s t) : VideoFrame s t := by
  unfold FramesOnly at h; unfold VideoFrame; rw [h]

@[simp] theorem setFrame_frame_same (s : State) (m : Monitor) (p : Pixmap) :
    (s.setFrame m p).frame m = p := by
  cases m <;> rfl

theorem setFrame_frame_ne (s : State) {m m' : Monitor} (p : Pixmap) (h : m' ≠ m) :
    (s.setFrame m p).frame m' = s.frame m' := by
  cases m <;> cases m' <;> first | rfl | exact absurd rfl h

theorem setFrame_framesOnly (s : State) (m : Monitor) (p : Pixmap) :
    FramesOnly s (s.setFrame m p) := by
  cases m <;> rfl

/-- TILE.RENDER changes the tile layers alone (R213). -/
theorem tileRender_frame (L : Nat) (s : State) :
    tileRender L s = { s with tiles := (tileRender L s).tiles } := by
  unfold tileRender; split <;> rfl

theorem tileRender_video (L : Nat) (s : State) : VideoFrame s (tileRender L s) := by
  unfold tileRender; split <;> rfl

theorem renderAllTiles_video (s : State) : VideoFrame s (renderAllTiles s) :=
  foldl_keeps (P := VideoFrame s) _ _ (fun _ L _ h => h.trans (tileRender_video L _)) rfl

/-- SPR.REFRESH changes its layer alone (R233). -/
theorem spriteRefresh_video (S : SpriteId) (s : State) : VideoFrame s (spriteRefresh S s) := by
  cases S <;> rfl

/-- SEQ.SCROLLCOMP changes the frames alone (R325). -/
theorem scrollComp_framesOnly (s : State) : FramesOnly s (scrollComp s) := by
  refine foldl_keeps (P := FramesOnly s) _ _ (fun t L _ h => h.trans ?_) rfl
  unfold scrollLayer
  split
  exacts [setFrame_framesOnly _ _ _, rfl]

theorem blit_framesOnly (m : Monitor) (t : BsTransform) (s : State) : FramesOnly s (blit m t s) :=
  setFrame_framesOnly _ _ _

/-- SPR.COMPOSITE of layer 0 changes the frames alone (R236). -/
theorem composite0_framesOnly (s : State) : FramesOnly s (composite0 s) := by
  unfold composite0
  dsimp only
  split
  · rfl
  · split <;> split
    exacts [(blit_framesOnly _ _ _).trans (blit_framesOnly _ _ _), blit_framesOnly _ _ _,
      blit_framesOnly _ _ _, rfl]

/-- SPR.COMPOSITE of layer 1 changes the frames alone (R244). -/
theorem composite1_framesOnly (s : State) : FramesOnly s (composite1 s) :=
  setFrame_framesOnly _ _ _

/-! ### The road pass -/

/-- Only what a whole road pass may write differs between `s` and `t` (R322, R323). -/
def PassFrame (s t : State) : Prop :=
  t = { s with
    collision := t.collision
    sprbuf := t.sprbuf
    offroadDrawn := t.offroadDrawn
    sprparam := t.sprparam
    sprxmap := t.sprxmap
    frameTop := t.frameTop
    frameBottom := t.frameBottom }

theorem PassFrame.trans {s t u : State} (h : PassFrame s t) (h' : PassFrame t u) :
    PassFrame s u := by
  unfold PassFrame at *; rw [h', h]

theorem SweepFrame.pass {s t : State} (h : SweepFrame s t) : PassFrame s t := by
  unfold SweepFrame at h; unfold PassFrame; rw [h]

/-- ROAD.PARAMS changes the two tables alone (R272). -/
theorem roadParams_frame (s : State) :
    roadParams s = { s with
      sprparam := (roadParams s).sprparam
      sprxmap := (roadParams s).sprxmap } := by
  unfold roadParams; split <;> rfl

theorem roadParams_pass (s : State) : PassFrame s (roadParams s) := by
  unfold roadParams PassFrame; split <;> rfl

theorem roadPass_frame (minimal : Bool) (s : State) : PassFrame s (roadPass minimal s) := by
  unfold roadPass
  split
  · exact foldl_keeps (P := PassFrame s) _ _
      (fun t y _ h => h.trans (SweepFrame.pass (roadLine_frame minimal y t))) (roadParams_pass s)
  · rfl

/-! ### One frame and one step -/

/-- What SEQ.FRAME has done before its road pass. -/
def beforeRoad (fullRefresh : Bool) (s : State) : State :=
  composite1 (composite0 (scrollComp (spriteRefresh .big1 (spriteRefresh .big0
    (renderAllTiles (if fullRefresh then markEverything s else s))))))

theorem renderFrame_eq (fullRefresh : Bool) (s : State) :
    renderFrame fullRefresh s = framePresent (roadPass false (beforeRoad fullRefresh s)) := rfl

theorem beforeRoad_video (fullRefresh : Bool) (s : State) :
    VideoFrame s (beforeRoad fullRefresh s) := by
  have h : VideoFrame s (if fullRefresh then markEverything s else s) := by
    cases fullRefresh <;> rfl
  exact ((((h.trans (renderAllTiles_video _)).trans (spriteRefresh_video .big0 _)).trans
    (spriteRefresh_video .big1 _)).trans (scrollComp_framesOnly _).video).trans
    ((composite0_framesOnly _).trans (composite1_framesOnly _)).video

/-- What a step that answers a next state has done (R75, R88, R371). -/
theorem step_next {s t : State} (h : step s = .next t) :
    (s.pending = [] ∧ t = s) ∨
    ∃ r rest, s.pending = r :: rest ∧
      ((requestWord s.cfg r.what = none ∧ t = takeRequest s r rest) ∨
       ∃ tw, requestWord s.cfg r.what = some tw ∧
         exec (decode tw) (takeRequest s r rest) = .next t) := by
  unfold step at h
  split at h
  · next hp => exact .inl ⟨hp, by simpa using h.symm⟩
  · next r rest hp =>
    refine .inr ⟨r, rest, hp, ?_⟩
    split at h
    · next hw => exact .inl ⟨hw, by simpa using h.symm⟩
    · next tw hw => exact .inr ⟨tw, hw, h⟩

end Sys2Proof.Machine
end

