-- ==== Sys2Proof/Laws/Outputs.lean ====
section
/-!
SUPPORT. The capabilities as record updates of the trace, in the terms of `Safety.lean`: one equation
per capability, for a proof to rewrite with instead of splitting on whether the capability is present.
-/

namespace Sys2Proof.Machine

open Sys2Proof

variable (s : State)

theorem ret_eq (v : Byte) : s.ret v = { s with trace := s.trace ++ [.busReturn v] } := rfl

theorem extWrite_eq (c : Nat) (p : Port) (v : Byte) :
    extWrite s c p v = { s with trace := s.trace ++ callbackEvents s c p v } := by
  unfold extWrite callbackEvents
  by_cases h : (c, p) ∈ s.cfg.ppiWr
  · rw [if_pos h, if_pos h]; rfl
  · rw [if_neg h, if_neg h, List.append_nil]

theorem extRead_eq (c : Nat) (p : Port) :
    extRead s c p = (portAnswer s c p, { s with trace := s.trace ++ portAsked s c p }) := by
  unfold extRead portAnswer portAsked
  by_cases h : (c, p) ∈ s.cfg.ppiRd
  · rw [if_pos h, if_pos h, if_pos h]; rfl
  · rw [if_neg h, if_neg h, if_neg h, List.append_nil]

theorem speechLine_eq (line : SpeechLine) (v : Byte) :
    speechLine s line v = { s with trace := s.trace ++ lineEvents s line v } := by
  unfold speechLine lineEvents
  cases h : s.cfg.hasSpeechLines
  · rw [if_neg (by simp), if_neg (by simp), List.append_nil]
  · rw [if_pos rfl, if_pos rfl]; rfl

theorem soundCpuReset_eq (b : BitVec 1) :
    soundCpuReset s b = { s with trace := s.trace ++ resetLineEvents s b } := by
  unfold soundCpuReset resetLineEvents
  cases h : s.cfg.hasSndCpuReset
  · rw [if_neg (by simp), if_neg (by simp), List.append_nil]
  · rw [if_pos rfl, if_pos rfl]; rfl

/-- `Emit(c, p)` as the event it appends (R141). -/
theorem emitPort_eq (c : BitVec 3) (ch : Chip) (p : Port) :
    emitPort s c ch p =
      { s with trace := s.trace ++ callbackEvents s c.toNat p (ch.muxed p) } :=
  extWrite_eq s c.toNat p (ch.muxed p)

/-- Every byte `Emit` hands on has 1 in every input bit (R155(e)). -/
theorem muxed_input_bits (ch : Chip) (p : Port) : ch.muxed p &&& ch.io p = ch.io p := by
  unfold Chip.muxed
  have h : (0xFF : Byte) &&& ch.io p = ch.io p := by
    generalize ch.io p = m
    revert m
    decide
  rw [h, BitVec.and_comm, BitVec.and_or_distrib_left, BitVec.and_self]
  ext i hi
  simp only [BitVec.getElem_and, BitVec.getElem_or, BitVec.getElem_not]
  cases (ch.io p)[i] <;> simp

/-! ### Protection entries -/

theorem matchesWrite_iff (e : ProtEntry) (o : BitVec 4) (mode : Option Byte) :
    ProtEntry.matchesWrite e o mode = true ↔ appliesToWrite e o mode := by
  unfold ProtEntry.matchesWrite appliesToWrite ProtEntry.holdsMode modeHolds
  cases e.dir <;> cases e.modes <;> simp

theorem matchesRead_iff (e : ProtEntry) (o : BitVec 4) (mode : Option Byte) (pc : Nat) :
    ProtEntry.matchesRead e o mode pc = true ↔ appliesToRead e o mode pc := by
  unfold ProtEntry.matchesRead appliesToRead ProtEntry.holdsMode modeHolds
  cases e.dir with
  | write => simp
  | read pcs => cases e.modes <;> cases pcs <;> simp <;> tauto

end Sys2Proof.Machine
end

