-- ==== Sys2Proof/Laws/PerInstr.lean ====
section
/-!
SUPPORT. Statements made once per operation.  `EncodeFits`: the word the encoder writes is taken by
the opcode-table row that carries the operation's mnemonic (`30_encoding.md` rule R100).
-/

namespace Sys2Proof.Laws

open Sys2Proof

/-! ### Words and masks field by field -/

theorem append_and {m n : Nat} (x x' : BitVec m) (y y' : BitVec n) :
    (x ++ y) &&& (x' ++ y') = (x &&& x') ++ (y &&& y') := by
  ext i hi
  simp only [BitVec.getElem_and, BitVec.getElem_append]
  split <;> rfl

theorem packTW_and (u u' : BitVec 4) (w w' : BitVec 1) (i i' : BitVec 3) (s s' : BitVec 16)
    (d d' : Byte) :
    packTW u w i s d &&& packTW u' w' i' s' d' =
      packTW (u &&& u') (w &&& w') (i &&& i') (s &&& s') (d &&& d') := by
  simp only [packTW, append_and (m := 24) (n := 8), append_and (m := 8) (n := 16),
    append_and (m := 5) (n := 3), append_and (m := 4) (n := 1)]

/-- A word lies in a row when each field does. -/
theorem rowTakes_packTW {name : String} {v m : TW} {u u' : BitVec 4} {w w' : BitVec 1}
    {i i' : BitVec 3} {s s' : BitVec 16} {d d' : Byte}
    (hm : m = packTW u' w' i' s' d')
    (hv : v = packTW (u &&& u') (w &&& w') (i &&& i') (s &&& s') (d &&& d')) :
    rowTakes ⟨name, v, m⟩ (packTW u w i s d) = true := by
  simp [rowTakes, hm, hv, packTW_and]

/-! ### The family -/

/-- The operation's word lies in a row of its mnemonic. -/
def EncodeFits.Statement (i : Instr) : Prop :=
  ∃ r ∈ opcodeTable, r.mnemonic = Instr.mnemonic i ∧ rowTakes r (encode i) = true


theorem EncodeFits.seqReset : EncodeFits.Statement .seqReset :=
  ⟨⟨"SEQ.RESET", 0x08000000, 0xFFFFFF00⟩, by decide, rfl,
    rowTakes_packTW (u' := 15#4) (w' := 1#1) (i' := 7#3) (s' := 0xFFFF#16)
      (d' := 0#8) (by decide)
      (by decide)⟩

theorem EncodeFits.seqFrame (fullRefresh : BitVec 1) :
    EncodeFits.Statement (.seqFrame fullRefresh) :=
  ⟨⟨"SEQ.FRAME", 0x08000100, 0xFFFFFF00⟩, by decide, rfl,
    rowTakes_packTW (u' := 15#4) (w' := 1#1) (i' := 7#3) (s' := 0xFFFF#16)
      (d' := 0#8) (by decide)
      (by simp only [BitVec.and_zero]; decide)⟩

theorem EncodeFits.seqCollOnly : EncodeFits.Statement .seqCollOnly :=
  ⟨⟨"SEQ.COLLONLY", 0x08000200, 0xFFFFFF00⟩, by decide, rfl,
    rowTakes_packTW (u' := 15#4) (w' := 1#1) (i' := 7#3) (s' := 0xFFFF#16)
      (d' := 0#8) (by decide)
      (by decide)⟩

theorem EncodeFits.seqScrollComp : EncodeFits.Statement .seqScrollComp :=
  ⟨⟨"SEQ.SCROLLCOMP", 0x08000300, 0xFFFFFF00⟩, by decide, rfl,
    rowTakes_packTW (u' := 15#4) (w' := 1#1) (i' := 7#3) (s' := 0xFFFF#16)
      (d' := 0#8) (by decide)
      (by decide)⟩

theorem EncodeFits.ppiInit (chipCount : Byte) : EncodeFits.Statement (.ppiInit chipCount) :=
  ⟨⟨"PPI.INIT", 0x08010000, 0xFFFFFF00⟩, by decide, rfl,
    rowTakes_packTW (u' := 15#4) (w' := 1#1) (i' := 7#3) (s' := 0xFFFF#16)
      (d' := 0#8) (by decide)
      (by simp only [BitVec.and_zero]; decide)⟩

theorem EncodeFits.tileRender (L : BitVec 3) : EncodeFits.Statement (.tileRender L) :=
  ⟨⟨"TILE.RENDER", 0x08040000, 0xF8FFFF00⟩, by decide, rfl,
    rowTakes_packTW (u' := 15#4) (w' := 1#1) (i' := 0#3) (s' := 0xFFFF#16)
      (d' := 0#8) (by decide)
      (by simp only [BitVec.and_zero]; decide)⟩

theorem EncodeFits.sprRefresh (S : BitVec 3) : EncodeFits.Statement (.sprRefresh S) :=
  ⟨⟨"SPR.REFRESH", 0x08050000, 0xF8FFFF00⟩, by decide, rfl,
    rowTakes_packTW (u' := 15#4) (w' := 1#1) (i' := 0#3) (s' := 0xFFFF#16)
      (d' := 0#8) (by decide)
      (by simp only [BitVec.and_zero]; decide)⟩

theorem EncodeFits.sprComposite0 : EncodeFits.Statement .sprComposite0 :=
  ⟨⟨"SPR.COMPOSITE.0", 0x08050100, 0xFFFFFF00⟩, by decide, rfl,
    rowTakes_packTW (u' := 15#4) (w' := 1#1) (i' := 7#3) (s' := 0xFFFF#16)
      (d' := 0#8) (by decide)
      (by decide)⟩

theorem EncodeFits.sprComposite1 : EncodeFits.Statement .sprComposite1 :=
  ⟨⟨"SPR.COMPOSITE.1", 0x09050100, 0xFFFFFF00⟩, by decide, rfl,
    rowTakes_packTW (u' := 15#4) (w' := 1#1) (i' := 7#3) (s' := 0xFFFF#16)
      (d' := 0#8) (by decide)
      (by decide)⟩

theorem EncodeFits.roadParams : EncodeFits.Statement .roadParams :=
  ⟨⟨"ROAD.PARAMS", 0x08060000, 0xFFFFFF00⟩, by decide, rfl,
    rowTakes_packTW (u' := 15#4) (w' := 1#1) (i' := 7#3) (s' := 0xFFFF#16)
      (d' := 0#8) (by decide)
      (by decide)⟩

theorem EncodeFits.roadLine (minimal : BitVec 1) (y : Byte) :
    EncodeFits.Statement (.roadLine minimal y) :=
  ⟨⟨"ROAD.LINE", 0x08060100, 0xFEFFFF00⟩, by decide, rfl,
    rowTakes_packTW (u' := 15#4) (w' := 1#1) (i' := 3#2 ++ 0#1) (s' := 0xFFFF#16)
      (d' := 0#8) (by decide)
      (by simp only [append_and (m := 2) (n := 1), BitVec.and_zero]; decide)⟩

theorem EncodeFits.palBuild : EncodeFits.Statement .palBuild :=
  ⟨⟨"PAL.BUILD", 0x08070000, 0xFFFFFF00⟩, by decide, rfl,
    rowTakes_packTW (u' := 15#4) (w' := 1#1) (i' := 7#3) (s' := 0xFFFF#16)
      (d' := 0#8) (by decide)
      (by decide)⟩

theorem EncodeFits.palCtBuild (g : BitVec 3) : EncodeFits.Statement (.palCtBuild g) :=
  ⟨⟨"PAL.CTBUILD", 0x08070100, 0xF8FFFF00⟩, by decide, rfl,
    rowTakes_packTW (u' := 15#4) (w' := 1#1) (i' := 0#3) (s' := 0xFFFF#16)
      (d' := 0#8) (by decide)
      (by simp only [BitVec.and_zero]; decide)⟩

theorem EncodeFits.nvExport : EncodeFits.Statement .nvExport :=
  ⟨⟨"NV.EXPORT", 0x08080000, 0xFFFFFF00⟩, by decide, rfl,
    rowTakes_packTW (u' := 15#4) (w' := 1#1) (i' := 7#3) (s' := 0xFFFF#16)
      (d' := 0#8) (by decide)
      (by decide)⟩

theorem EncodeFits.nvImport : EncodeFits.Statement .nvImport :=
  ⟨⟨"NV.IMPORT", 0x08080100, 0xFFFFFF00⟩, by decide, rfl,
    rowTakes_packTW (u' := 15#4) (w' := 1#1) (i' := 7#3) (s' := 0xFFFF#16)
      (d' := 0#8) (by decide)
      (by decide)⟩

theorem EncodeFits.ppiRdA (c : BitVec 3) : EncodeFits.Statement (.ppiRdA c) :=
  ⟨⟨"PPI.RD.A", 0x10000000, 0xF8FFFF00⟩, by decide, rfl,
    rowTakes_packTW (u' := 15#4) (w' := 1#1) (i' := 0#3) (s' := 0xFFFF#16)
      (d' := 0#8) (by decide)
      (by simp only [BitVec.and_zero]; decide)⟩

theorem EncodeFits.ppiRdB (c : BitVec 3) : EncodeFits.Statement (.ppiRdB c) :=
  ⟨⟨"PPI.RD.B", 0x10000100, 0xF8FFFF00⟩, by decide, rfl,
    rowTakes_packTW (u' := 15#4) (w' := 1#1) (i' := 0#3) (s' := 0xFFFF#16)
      (d' := 0#8) (by decide)
      (by simp only [BitVec.and_zero]; decide)⟩

theorem EncodeFits.ppiRdC (c : BitVec 3) : EncodeFits.Statement (.ppiRdC c) :=
  ⟨⟨"PPI.RD.C", 0x10000200, 0xF8FFFF00⟩, by decide, rfl,
    rowTakes_packTW (u' := 15#4) (w' := 1#1) (i' := 0#3) (s' := 0xFFFF#16)
      (d' := 0#8) (by decide)
      (by simp only [BitVec.and_zero]; decide)⟩

theorem EncodeFits.ppiRdCtrl (c : BitVec 3) : EncodeFits.Statement (.ppiRdCtrl c) :=
  ⟨⟨"PPI.RD.CTRL", 0x10000300, 0xF8FFFF00⟩, by decide, rfl,
    rowTakes_packTW (u' := 15#4) (w' := 1#1) (i' := 0#3) (s' := 0xFFFF#16)
      (d' := 0#8) (by decide)
      (by simp only [BitVec.and_zero]; decide)⟩

theorem EncodeFits.ppiWrA (c : BitVec 3) (d : Byte) : EncodeFits.Statement (.ppiWrA c d) :=
  ⟨⟨"PPI.WR.A", 0x18000000, 0xF8FFFF00⟩, by decide, rfl,
    rowTakes_packTW (u' := 15#4) (w' := 1#1) (i' := 0#3) (s' := 0xFFFF#16)
      (d' := 0#8) (by decide)
      (by simp only [BitVec.and_zero]; decide)⟩

theorem EncodeFits.ppiWrB (c : BitVec 3) (d : Byte) : EncodeFits.Statement (.ppiWrB c d) :=
  ⟨⟨"PPI.WR.B", 0x18000100, 0xF8FFFF00⟩, by decide, rfl,
    rowTakes_packTW (u' := 15#4) (w' := 1#1) (i' := 0#3) (s' := 0xFFFF#16)
      (d' := 0#8) (by decide)
      (by simp only [BitVec.and_zero]; decide)⟩

theorem EncodeFits.ppiWrC (c : BitVec 3) (d : Byte) : EncodeFits.Statement (.ppiWrC c d) :=
  ⟨⟨"PPI.WR.C", 0x18000200, 0xF8FFFF00⟩, by decide, rfl,
    rowTakes_packTW (u' := 15#4) (w' := 1#1) (i' := 0#3) (s' := 0xFFFF#16)
      (d' := 0#8) (by decide)
      (by simp only [BitVec.and_zero]; decide)⟩

theorem EncodeFits.ppiWrMode (c : BitVec 3) (ga : BitVec 2) (da dcu gb db dcl : BitVec 1) :
    EncodeFits.Statement (.ppiWrMode c ga da dcu gb db dcl) :=
  ⟨⟨"PPI.WR.MODE", 0x18000380, 0xF8FFFF80⟩, by decide, rfl,
    rowTakes_packTW (u' := 15#4) (w' := 1#1) (i' := 0#3) (s' := 0xFFFF#16)
      (d' := 1#1 ++ 0#2 ++ 0#1 ++ 0#1 ++ 0#1 ++ 0#1 ++ 0#1) (by decide)
      (by simp only [append_and (m := 7) (n := 1), append_and (m := 6) (n := 1), append_and (m :=
          5) (n := 1), append_and (m := 4) (n := 1), append_and (m := 3) (n := 1), append_and (m := 1)
          (n := 2), BitVec.and_zero]; decide)⟩

theorem EncodeFits.ppiWrBsr (c : BitVec 3) (x : BitVec 3) (n : BitVec 3) (s : BitVec 1) :
    EncodeFits.Statement (.ppiWrBsr c x n s) :=
  ⟨⟨"PPI.WR.BSR", 0x18000300, 0xF8FFFF80⟩, by decide, rfl,
    rowTakes_packTW (u' := 15#4) (w' := 1#1) (i' := 0#3) (s' := 0xFFFF#16)
      (d' := 1#1 ++ 0#3 ++ 0#3 ++ 0#1) (by decide)
      (by simp only [append_and (m := 7) (n := 1), append_and (m := 4) (n := 3), append_and (m :=
          1) (n := 3), BitVec.and_zero]; decide)⟩

theorem EncodeFits.protRd13 : EncodeFits.Statement .protRd13 :=
  ⟨⟨"PROT.RD13", 0x20000D00, 0xFFFFFF00⟩, by decide, rfl,
    rowTakes_packTW (u' := 15#4) (w' := 1#1) (i' := 7#3) (s' := 0xFFFF#16)
      (d' := 0#8) (by decide)
      (by decide)⟩

theorem EncodeFits.protWr13 (d : Byte) : EncodeFits.Statement (.protWr13 d) :=
  ⟨⟨"PROT.WR13", 0x28000D00, 0xFFFFFF00⟩, by decide, rfl,
    rowTakes_packTW (u' := 15#4) (w' := 1#1) (i' := 7#3) (s' := 0xFFFF#16)
      (d' := 0#8) (by decide)
      (by simp only [BitVec.and_zero]; decide)⟩

theorem EncodeFits.protRd (o : BitVec 4) : EncodeFits.Statement (.protRd o) :=
  ⟨⟨"PROT.RD", 0x20000000, 0xFFFFF000⟩, by decide, rfl,
    rowTakes_packTW (u' := 15#4) (w' := 1#1) (i' := 7#3) (s' := 0xFFF#12 ++ 0#4)
      (d' := 0#8) (by decide)
      (by simp only [append_and (m := 12) (n := 4), BitVec.and_zero]; decide)⟩

theorem EncodeFits.protWr (o : BitVec 4) (d : Byte) : EncodeFits.Statement (.protWr o d) :=
  ⟨⟨"PROT.WR", 0x28000000, 0xFFFFF000⟩, by decide, rfl,
    rowTakes_packTW (u' := 15#4) (w' := 1#1) (i' := 7#3) (s' := 0xFFF#12 ++ 0#4)
      (d' := 0#8) (by decide)
      (by simp only [append_and (m := 12) (n := 4), BitVec.and_zero]; decide)⟩

theorem EncodeFits.sndLatchRd (i : BitVec 1) : EncodeFits.Statement (.sndLatchRd i) :=
  ⟨⟨"SND.LATCH.RD", 0x30000000, 0xFEFFFF00⟩, by decide, rfl,
    rowTakes_packTW (u' := 15#4) (w' := 1#1) (i' := 3#2 ++ 0#1) (s' := 0xFFFF#16)
      (d' := 0#8) (by decide)
      (by simp only [append_and (m := 2) (n := 1), BitVec.and_zero]; decide)⟩

theorem EncodeFits.sndLatchWr (i : BitVec 1) (d : Byte) : EncodeFits.Statement (.sndLatchWr i d) :=
  ⟨⟨"SND.LATCH.WR", 0x38000000, 0xFEFFFF00⟩, by decide, rfl,
    rowTakes_packTW (u' := 15#4) (w' := 1#1) (i' := 3#2 ++ 0#1) (s' := 0xFFFF#16)
      (d' := 0#8) (by decide)
      (by simp only [append_and (m := 2) (n := 1), BitVec.and_zero]; decide)⟩

theorem EncodeFits.sndSpeechResetWr (level : BitVec 1) :
    EncodeFits.Statement (.sndSpeechResetWr level) :=
  ⟨⟨"SND.SPEECH.RESET.WR", 0x38000100, 0xFFFFFF00⟩, by decide, rfl,
    rowTakes_packTW (u' := 15#4) (w' := 1#1) (i' := 7#3) (s' := 0xFFFF#16)
      (d' := 0#8) (by decide)
      (by simp only [BitVec.and_zero]; decide)⟩

theorem EncodeFits.sndSpeechStartWr (level : BitVec 1) :
    EncodeFits.Statement (.sndSpeechStartWr level) :=
  ⟨⟨"SND.SPEECH.START.WR", 0x38000200, 0xFFFFFF00⟩, by decide, rfl,
    rowTakes_packTW (u' := 15#4) (w' := 1#1) (i' := 7#3) (s' := 0xFFFF#16)
      (d' := 0#8) (by decide)
      (by simp only [BitVec.and_zero]; decide)⟩

theorem EncodeFits.sndSpeechVcuWr (level : BitVec 1) :
    EncodeFits.Statement (.sndSpeechVcuWr level) :=
  ⟨⟨"SND.SPEECH.VCU.WR", 0x38000300, 0xFFFFFF00⟩, by decide, rfl,
    rowTakes_packTW (u' := 15#4) (w' := 1#1) (i' := 7#3) (s' := 0xFFFF#16)
      (d' := 0#8) (by decide)
      (by simp only [BitVec.and_zero]; decide)⟩

theorem EncodeFits.sndSpeechDataWr (d : Byte) : EncodeFits.Statement (.sndSpeechDataWr d) :=
  ⟨⟨"SND.SPEECH.DATA.WR", 0x38000400, 0xFFFFFF00⟩, by decide, rfl,
    rowTakes_packTW (u' := 15#4) (w' := 1#1) (i' := 7#3) (s' := 0xFFFF#16)
      (d' := 0#8) (by decide)
      (by simp only [BitVec.and_zero]; decide)⟩

theorem EncodeFits.sndCpuResetWr (d : Byte) : EncodeFits.Statement (.sndCpuResetWr d) :=
  ⟨⟨"SND.CPURESET.WR", 0x38000500, 0xFFFFFF00⟩, by decide, rfl,
    rowTakes_packTW (u' := 15#4) (w' := 1#1) (i' := 7#3) (s' := 0xFFFF#16)
      (d' := 0#8) (by decide)
      (by simp only [BitVec.and_zero]; decide)⟩

theorem EncodeFits.vramRd (L : BitVec 3) (n : BitVec 16) : EncodeFits.Statement (.vramRd L n) :=
  ⟨⟨"VRAM.RD", 0x40000000, 0xF8000000⟩, by decide, rfl,
    rowTakes_packTW (u' := 15#4) (w' := 1#1) (i' := 0#3) (s' := 0#16)
      (d' := 0#8) (by decide)
      (by simp only [BitVec.and_zero]; decide)⟩

theorem EncodeFits.vramWr (L : BitVec 3) (n : BitVec 16) (d : Byte) :
    EncodeFits.Statement (.vramWr L n d) :=
  ⟨⟨"VRAM.WR", 0x48000000, 0xF8000000⟩, by decide, rfl,
    rowTakes_packTW (u' := 15#4) (w' := 1#1) (i' := 0#3) (s' := 0#16)
      (d' := 0#8) (by decide)
      (by simp only [BitVec.and_zero]; decide)⟩

theorem EncodeFits.sprRamRd (S : BitVec 1) (n : BitVec 15) : EncodeFits.Statement (.sprRamRd S n) :=
  ⟨⟨"SPR.RAM.RD", 0x50000000, 0xFE800000⟩, by decide, rfl,
    rowTakes_packTW (u' := 15#4) (w' := 1#1) (i' := 3#2 ++ 0#1) (s' := 1#1 ++ 0#15)
      (d' := 0#8) (by decide)
      (by simp only [append_and (m := 2) (n := 1), append_and (m := 1) (n := 15),
          BitVec.and_zero]; decide)⟩

theorem EncodeFits.sprRamWr (S : BitVec 1) (n : BitVec 15) (d : Byte) :
    EncodeFits.Statement (.sprRamWr S n d) :=
  ⟨⟨"SPR.RAM.WR", 0x58000000, 0xFE800000⟩, by decide, rfl,
    rowTakes_packTW (u' := 15#4) (w' := 1#1) (i' := 3#2 ++ 0#1) (s' := 1#1 ++ 0#15)
      (d' := 0#8) (by decide)
      (by simp only [append_and (m := 2) (n := 1), append_and (m := 1) (n := 15),
          BitVec.and_zero]; decide)⟩

theorem EncodeFits.sprCtrlRd (S : BitVec 1) (r : BitVec 15) :
    EncodeFits.Statement (.sprCtrlRd S r) :=
  ⟨⟨"SPR.CTRL.RD", 0x50800000, 0xFE800000⟩, by decide, rfl,
    rowTakes_packTW (u' := 15#4) (w' := 1#1) (i' := 3#2 ++ 0#1) (s' := 1#1 ++ 0#15)
      (d' := 0#8) (by decide)
      (by simp only [append_and (m := 2) (n := 1), append_and (m := 1) (n := 15),
          BitVec.and_zero]; decide)⟩

theorem EncodeFits.sprCtrlWr (S : BitVec 1) (r : BitVec 15) (d : Byte) :
    EncodeFits.Statement (.sprCtrlWr S r d) :=
  ⟨⟨"SPR.CTRL.WR", 0x58800000, 0xFE800000⟩, by decide, rfl,
    rowTakes_packTW (u' := 15#4) (w' := 1#1) (i' := 3#2 ++ 0#1) (s' := 1#1 ++ 0#15)
      (d' := 0#8) (by decide)
      (by simp only [append_and (m := 2) (n := 1), append_and (m := 1) (n := 15),
          BitVec.and_zero]; decide)⟩

theorem EncodeFits.roadCollRd : EncodeFits.Statement .roadCollRd :=
  ⟨⟨"ROAD.COLL.RD", 0x60000600, 0xFFFFFF00⟩, by decide, rfl,
    rowTakes_packTW (u' := 15#4) (w' := 1#1) (i' := 7#3) (s' := 0xFFFF#16)
      (d' := 0#8) (by decide)
      (by decide)⟩

theorem EncodeFits.roadCollClr : EncodeFits.Statement .roadCollClr :=
  ⟨⟨"ROAD.COLL.CLR", 0x68000600, 0xFFFFFF00⟩, by decide, rfl,
    rowTakes_packTW (u' := 15#4) (w' := 1#1) (i' := 7#3) (s' := 0xFFFF#16)
      (d' := 0#8) (by decide)
      (by decide)⟩

theorem EncodeFits.roadRegRd (k : BitVec 3) : EncodeFits.Statement (.roadRegRd k) :=
  ⟨⟨"ROAD.REG.RD", 0x60000000, 0xFFFFF800⟩, by decide, rfl,
    rowTakes_packTW (u' := 15#4) (w' := 1#1) (i' := 7#3) (s' := 0x1FFF#13 ++ 0#3)
      (d' := 0#8) (by decide)
      (by simp only [append_and (m := 13) (n := 3), BitVec.and_zero]; decide)⟩

theorem EncodeFits.roadRegWr (k : BitVec 3) (d : Byte) : EncodeFits.Statement (.roadRegWr k d) :=
  ⟨⟨"ROAD.REG.WR", 0x68000000, 0xFFFFF800⟩, by decide, rfl,
    rowTakes_packTW (u' := 15#4) (w' := 1#1) (i' := 7#3) (s' := 0x1FFF#13 ++ 0#3)
      (d' := 0#8) (by decide)
      (by simp only [append_and (m := 13) (n := 3), BitVec.and_zero]; decide)⟩

theorem EncodeFits.roadSprRd (n : BitVec 12) : EncodeFits.Statement (.roadSprRd n) :=
  ⟨⟨"ROAD.SPR.RD", 0x60100000, 0xFFF00000⟩, by decide, rfl,
    rowTakes_packTW (u' := 15#4) (w' := 1#1) (i' := 7#3) (s' := 0xF#4 ++ 0#12)
      (d' := 0#8) (by decide)
      (by simp only [append_and (m := 4) (n := 12), BitVec.and_zero]; decide)⟩

theorem EncodeFits.roadSprWr (n : BitVec 12) (d : Byte) : EncodeFits.Statement (.roadSprWr n d) :=
  ⟨⟨"ROAD.SPR.WR", 0x68100000, 0xFFF00000⟩, by decide, rfl,
    rowTakes_packTW (u' := 15#4) (w' := 1#1) (i' := 7#3) (s' := 0xF#4 ++ 0#12)
      (d' := 0#8) (by decide)
      (by simp only [append_and (m := 4) (n := 12), BitVec.and_zero]; decide)⟩

theorem EncodeFits.ctlPalbankRd : EncodeFits.Statement .ctlPalbankRd :=
  ⟨⟨"CTL.PALBANK.RD", 0x70000000, 0xFFFFFF00⟩, by decide, rfl,
    rowTakes_packTW (u' := 15#4) (w' := 1#1) (i' := 7#3) (s' := 0xFFFF#16)
      (d' := 0#8) (by decide)
      (by decide)⟩

theorem EncodeFits.ctlPalbankWr (d : Byte) : EncodeFits.Statement (.ctlPalbankWr d) :=
  ⟨⟨"CTL.PALBANK.WR", 0x78000000, 0xFFFFFF00⟩, by decide, rfl,
    rowTakes_packTW (u' := 15#4) (w' := 1#1) (i' := 7#3) (s' := 0xFFFF#16)
      (d' := 0#8) (by decide)
      (by simp only [BitVec.and_zero]; decide)⟩

theorem EncodeFits.ctlScrollRd (i : Byte) : EncodeFits.Statement (.ctlScrollRd i) :=
  ⟨⟨"CTL.SCROLL.RD", 0x70010000, 0xFFFF0000⟩, by decide, rfl,
    rowTakes_packTW (u' := 15#4) (w' := 1#1) (i' := 7#3) (s' := 0xFF#8 ++ 0#8)
      (d' := 0#8) (by decide)
      (by simp only [append_and (m := 8) (n := 8), BitVec.and_zero]; decide)⟩

theorem EncodeFits.ctlScrollWr (i : Byte) (d : Byte) : EncodeFits.Statement (.ctlScrollWr i d) :=
  ⟨⟨"CTL.SCROLL.WR", 0x78010000, 0xFFFF0000⟩, by decide, rfl,
    rowTakes_packTW (u' := 15#4) (w' := 1#1) (i' := 7#3) (s' := 0xFF#8 ++ 0#8)
      (d' := 0#8) (by decide)
      (by simp only [append_and (m := 8) (n := 8), BitVec.and_zero]; decide)⟩

theorem EncodeFits.nvRd (n : BitVec 16) : EncodeFits.Statement (.nvRd n) :=
  ⟨⟨"NV.RD", 0x80000000, 0xFF000000⟩, by decide, rfl,
    rowTakes_packTW (u' := 15#4) (w' := 1#1) (i' := 7#3) (s' := 0#16)
      (d' := 0#8) (by decide)
      (by simp only [BitVec.and_zero]; decide)⟩

theorem EncodeFits.nvWr (n : BitVec 16) (d : Byte) : EncodeFits.Statement (.nvWr n d) :=
  ⟨⟨"NV.WR", 0x88000000, 0xFF000000⟩, by decide, rfl,
    rowTakes_packTW (u' := 15#4) (w' := 1#1) (i' := 7#3) (s' := 0#16)
      (d' := 0#8) (by decide)
      (by simp only [BitVec.and_zero]; decide)⟩

theorem EncodeFits.inpRd (i : BitVec 16) : EncodeFits.Statement (.inpRd i) :=
  ⟨⟨"INP.RD", 0x90000000, 0xFF000000⟩, by decide, rfl,
    rowTakes_packTW (u' := 15#4) (w' := 1#1) (i' := 7#3) (s' := 0#16)
      (d' := 0#8) (by decide)
      (by simp only [BitVec.and_zero]; decide)⟩

theorem EncodeFits.busOor (unit : BitVec 4) (w : BitVec 1) :
    EncodeFits.Statement (.busOor unit w) :=
  ⟨⟨"BUS.OOR", 0x00000000, 0x00000000⟩, by decide, rfl,
    rowTakes_packTW (u' := 0#4) (w' := 0#1) (i' := 0#3) (s' := 0#16)
      (d' := 0#8) (by decide)
      (by simp only [BitVec.and_zero]; decide)⟩

end Sys2Proof.Laws
end

