-- ==== Sys2Proof/Laws/Reset.lean ====
section
/-!
SUPPORT. What a state right after reset holds, on any board and whatever its unspecified contents.
-/

namespace Sys2Proof.Machine

open Sys2Proof

/-- Every memory and bitmap of a fresh state is in canonical form: nothing is listed in it. -/
theorem fresh_canonical (c : Config) (f : Fill) : (State.fresh c f).canonical := by
  refine ⟨fun tl h => ?_, ⟨Memory.unwritten_wf _ _, Pixmap.undrawn_wf _ _ _ _⟩,
    ⟨Memory.unwritten_wf _ _, Pixmap.undrawn_wf _ _ _ _⟩, Memory.unwritten_wf _ _,
    Memory.unwritten_wf _ _, Memory.unwritten_wf _ _, Pixmap.undrawn_wf _ _ _ _,
    Pixmap.undrawn_wf _ _ _ _⟩
  obtain ⟨_, _, rfl⟩ := List.mem_map.1 h
  exact ⟨Memory.unwritten_wf _ _, Pixmap.undrawn_wf _ _ _ _⟩

/-- Every memory of `State.reset` is in canonical form. -/
theorem reset_canonical : State.reset.canonical := fresh_canonical _ _

/-- Tile layer L of a fresh state: every dirty bit set (R53). -/
theorem fresh_tile (c : Config) (f : Fill) (L : Nat) :
    (State.fresh c f).tiles[L]? = c.tiles[L]?.map fun tc => TileLayer.fresh f tc L := by
  simp [State.fresh, List.getElem?_zipIdx, Option.map_map, Function.comp_def]

/-- The RGB table has the marker beyond its `PAL_ENTRIES` entries (R301, R304). -/
@[simp] theorem buildRgbTable_length (c : PaletteCfg) :
    (buildRgbTable c).length = c.entries + 1 := by
  simp [buildRgbTable]

/-- A colour table has `CT_TOTAL` entries (R306). -/
@[simp] theorem buildColorTable_length (t : Nat) (ct : ColorTableCfg) :
    (buildColorTable t ct).length = ct.total := by
  simp [buildColorTable]

/-- The tables of a fresh state have the sizes the board gives them (R45, R47). -/
theorem fresh_tablesSized (c : Config) (f : Fill) : (State.fresh c f).tablesSized := by
  refine ⟨by simp [State.fresh], buildRgbTable_length _, ?_⟩
  simp [State.fresh, buildColorTables, Function.comp_def]

/-- A fresh state has no request, no event and no working state. -/
theorem fresh_outside (c : Config) (f : Fill) :
    (State.fresh c f).pending = [] ∧ (State.fresh c f).trace = [] ∧ (State.fresh c f).sprbuf = []
      ∧ (State.fresh c f).offroadDrawn = false := ⟨rfl, rfl, rfl, rfl⟩

end Sys2Proof.Machine
end

