-- ==== Sys2Proof/Laws/Tables.lean ====
section
/-!
SUPPORT. What the configuration check says of OPEN index functions, tables and sprite rows: each
shared check, said once as what it means for the values the operations use (R346, R349).
-/

namespace Sys2Proof.Machine

open Sys2Proof

/-! ### OPEN index functions -/

theorem indexWithin_lt {size : Nat} (h : 0 < size) (i : Nat) : indexWithin size i < size := by
  unfold indexWithin
  split_ifs <;> assumption

/-- The check at one argument: the index the operations use there lies in the table. -/
theorem indexInside_iff {α : Type} [DecidableEq α] (f : OpenFn α Nat) (size : Nat) (free : α → Nat)
    (a : α) : indexInside f size a = true ↔ openIndex f size free a < size := by
  unfold indexInside openIndex openAt
  cases givenAt f a with
  | some v => simp
  | none =>
    simp only [Option.getD_none, decide_eq_true_eq]
    exact ⟨fun h => indexWithin_lt h _, fun h => Nat.zero_lt_of_lt h⟩

/-- The check at every argument: every index the operations use lies in the table. -/
theorem openIndex_lt {α : Type} [DecidableEq α] {f : OpenFn α Nat} {size : Nat}
    (h : rangeInside f size = true) (free : α → Nat) (a : α) : openIndex f size free a < size := by
  obtain ⟨⟨h0, hp⟩, hr⟩ := by simpa only [rangeInside, Bool.and_eq_true, decide_eq_true_eq] using h
  rw [← indexInside_iff]
  cases hl : f.points.lookup a with
  | some v =>
    obtain ⟨l, l', hl', _⟩ := List.lookup_eq_some_iff.1 hl
    exact List.all_eq_true.1 hp (a, v) (by simp [hl'])
  | none =>
    unfold indexInside givenAt
    rw [hl]
    cases hv : f.rest with
    | none => simpa using h0
    | some v => simpa [hv] using hr

/-- A board whose OPEN index function passes at every argument passes the check: some argument is no
listed point, and there the remaining value shows. -/
theorem rangeInside_iff {α : Type} [DecidableEq α] [Infinite α] (f : OpenFn α Nat) (size : Nat)
    (free : α → Nat) : rangeInside f size = true ↔ ∀ a, openIndex f size free a < size := by
  refine ⟨fun h a => openIndex_lt h free a, fun h => ?_⟩
  obtain ⟨a, ha⟩ := Infinite.exists_notMem_finset (f.points.map Prod.fst).toFinset
  have hl : f.points.lookup a = none := by
    rw [List.lookup_eq_none_iff]
    intro p hp
    simp only [List.mem_toFinset, List.mem_map, not_exists, not_and] at ha
    simpa using fun e => ha p hp e.symm
  simp only [rangeInside, Bool.and_eq_true, decide_eq_true_eq, List.all_eq_true]
  refine ⟨⟨Nat.zero_lt_of_lt (h a), fun p _ => (indexInside_iff f size free _).2 (h _)⟩, ?_⟩
  cases hr : f.rest with
  | none => rfl
  | some v =>
    have := h a
    simp only [openIndex, openAt, givenAt, hl, hr, Option.getD_some] at this
    simpa using this

/-- A function that passes its check overruns no table of that size. -/
theorem not_overruns {α : Type} [DecidableEq α] {f : OpenFn α Nat} {size : Nat} {free : α → Nat}
    (h : rangeInside f size = true) : ¬overruns f size free :=
  fun ⟨a, ha⟩ => absurd (openIndex_lt h free a) (Nat.not_lt.2 ha)

/-! ### Tables -/

theorem cellsFind_isSome {α : Type} (cells : List (Nat × α)) (i : Nat) (v : α)
    (h : cellsFind cells i = some v) : ∃ c ∈ cells, c.1 = i := by
  induction cells with
  | nil => simp [cellsFind] at h
  | cons c rest ih =>
    obtain ⟨b, w⟩ := c
    unfold cellsFind at h
    split_ifs at h with e
    · exact ⟨(b, w), by simp, e.symm⟩
    · obtain ⟨c, hc, e⟩ := ih h
      exact ⟨c, by simp [hc], e⟩

/-- The check of a table's contents: every entry passes. -/
theorem romAll_iff {α : Type} (r : Rom α) (p : α → Bool) :
    romAll r p = true ↔ ∀ i < r.size, p ((cellsFind r.cells i).getD r.fill) = true := by
  simp only [romAll, Bool.and_eq_true, Bool.or_eq_true, List.all_eq_true, List.mem_range,
    decide_eq_true_eq]
  constructor
  · rintro ⟨hf, hc⟩ i hi
    cases hv : cellsFind r.cells i with
    | some v =>
      obtain ⟨c, hm, rfl⟩ := cellsFind_isSome _ _ _ hv
      rcases hc c hm with h | h
      · omega
      · rwa [hv] at h
    | none =>
      rcases hf with h | h
      · exact h
      · simpa [hv] using h i hi
  · intro h
    refine ⟨?_, fun c _ => ?_⟩
    · by_cases hs : ∀ i < r.size, (cellsFind r.cells i).isSome = true
      · exact Or.inr hs
      · push Not at hs
        obtain ⟨i, hi, hn⟩ := hs
        have := h i hi
        rw [ne_eq, Bool.not_eq_true, Option.isSome_eq_false_iff, Option.isNone_iff_eq_none] at hn
        rw [hn] at this
        exact Or.inl this
    · rcases Nat.lt_or_ge c.1 r.size with hc | hc
      · exact Or.inr (h _ hc)
      · exact Or.inl hc

/-- Every pixel of a graphics table that passes its check is one. -/
theorem romPixel_lt {r : Rom Nat} {n i : Nat} (h : romAll r (· < n) = true) (hi : i < r.size) :
    romPixel r i < n := by
  have := (romAll_iff r _).1 h i hi
  rw [romPixel, romAt, if_pos hi]
  simpa using this

/-! ### Sprite rows -/

/-- The walk of a row from column n, in the closed form of `srcPos`. -/
theorem rowWalkOk_iff (c : RoadCfg) (P : SpriteParam) (base : Nat) (fuel n : Nat) :
    rowWalkOk c P base fuel n (srcPos c P n) = true ↔
      ∀ k, k < fuel → P.xoffset + (n + k) ≤ c.xLast →
        (∀ m, m < k → rowWord c (base + srcPos c P (n + m)) ≠ rowSentinel) →
        inRowData c (base + srcPos c P (n + k)) := by
  induction fuel generalizing n with
  | zero => simp [rowWalkOk]
  | succ fuel ih =>
    have hs : srcPos c P n + srcStep c P n = srcPos c P (n + 1) := rfl
    unfold rowWalkOk
    rw [hs, Bool.or_eq_true, Bool.and_eq_true, Bool.or_eq_true, ih, decide_eq_true_eq,
      decide_eq_true_eq, decide_eq_true_eq]
    constructor
    · rintro (h | ⟨h, h'⟩) k hk hx hw
      · omega
      · cases k with
        | zero => exact h
        | succ k =>
          rcases h' with h' | h'
          · exact absurd h' (hw 0 (by omega))
          · have := h' k (by omega) (by omega)
              (fun m hm => by
                have := hw (m + 1) (by omega)
                rwa [show n + (m + 1) = n + 1 + m by omega] at this)
            rwa [show n + (k + 1) = n + 1 + k by omega]
    · intro h
      by_cases hx : P.xoffset + n > c.xLast
      · exact Or.inl hx
      · refine Or.inr ⟨h 0 (by omega) (by simpa using hx) (by simp), ?_⟩
        by_cases hw : rowWord c (base + srcPos c P n) = rowSentinel
        · exact Or.inl hw
        · refine Or.inr fun k hk hx' hw' => ?_
          have := h (k + 1) (by omega) (by omega)
            (fun m hm => by
              cases m with
              | zero => exact hw
              | succ m =>
                have := hw' m (by omega)
                rwa [show n + 1 + m = n + (m + 1) by omega] at this)
          rwa [show n + (k + 1) = n + 1 + k by omega] at this

/-- The check of one row of a record: the row fits its data. -/
theorem rowFits_iff (c : RoadCfg) (P : SpriteParam) (y : Nat) :
    (rowTerminated c (rowBase c P y)
      && rowWalkOk c P (rowBase c P y) (rowColumns c P) 0 0) = true ↔ rowFits c P y := by
  rw [Bool.and_eq_true]
  refine and_congr ?_ ((rowWalkOk_iff c P _ _ 0).trans ?_)
  · simp only [rowTerminated, Bool.and_eq_true, decide_eq_true_eq, List.any_eq_true, List.mem_range]
    rfl
  · simp only [rowReaches, rowColumns, rowSentinel, Nat.zero_add]
    exact ⟨fun h n hx hw => h n (by omega) hx hw, fun h k _ hx hw => h k hx hw⟩

end Sys2Proof.Machine
end

