-- ==== Sys2Proof/Tests/Slice0.lean ====
section
/-!
SUPPORT. Tests: ill-formed terms, words written out from the spec's encodings, one step each of the
vectors of `95_test_vectors.md` (their sections are named), and for every statement with hypotheses a
state and operands that meet them.
-/

namespace Sys2Proof.Tests

open Sys2Proof Sys2Proof.Machine

/-! ### WellFormed: each check refuses an ill-formed term -/

theorem test_protRd_13_ill_formed : (Instr.protRd 13).wellFormed = false := by decide
theorem test_protWr_13_ill_formed : (Instr.protWr 13 0x4E).wellFormed = false := by decide
theorem test_roadRegRd_6_ill_formed : (Instr.roadRegRd 6).wellFormed = false := by decide
theorem test_roadRegWr_6_ill_formed : (Instr.roadRegWr 6 0xAA).wellFormed = false := by decide
theorem test_busOor_vram_ill_formed : (Instr.busOor 4 0).wellFormed = false := by decide

/-! ### Decoding: words of section 2.1 and words put together from R103 to R112 by hand -/

theorem test_decode_seq :
    decode 0x08000000 = .seqReset ∧ decode 0x08000101 = .seqFrame 1 ∧
    decode 0x080001FE = .seqFrame 0 ∧ decode 0x08000200 = .seqCollOnly ∧
    decode 0x08000300 = .seqScrollComp ∧ decode 0x08010004 = .ppiInit 4 ∧
    decode 0x00000000 = .busOor 0 0 ∧ decode 0x08000400 = .busOor 0 1 := by decide

theorem test_decode_video_commands :
    decode 0x09040000 = .tileRender 1 ∧ decode 0x09050000 = .sprRefresh 1 ∧
    decode 0x08050100 = .sprComposite0 ∧ decode 0x09050100 = .sprComposite1 ∧
    decode 0x08060000 = .roadParams ∧ decode 0x08060120 = .roadLine 0 32 ∧
    decode 0x09060120 = .roadLine 1 32 ∧ decode 0x08070000 = .palBuild ∧
    decode 0x0A070100 = .palCtBuild 2 ∧ decode 0x08080000 = .nvExport ∧
    decode 0x08080100 = .nvImport := by decide

theorem test_decode_ppi :
    decode 0x12000000 = .ppiRdA 2 ∧ decode 0x12000100 = .ppiRdB 2 ∧
    decode 0x12000200 = .ppiRdC 2 ∧ decode 0x12000300 = .ppiRdCtrl 2 ∧
    decode 0x1800003C = .ppiWrA 0 0x3C ∧ decode 0x1A000105 = .ppiWrB 2 0x05 ∧
    decode 0x1A0002A7 = .ppiWrC 2 0xA7 ∧ decode 0x1A00039B = .ppiWrMode 2 0 1 1 0 1 1 ∧
    decode 0x180003E4 = .ppiWrMode 0 3 0 0 1 0 0 ∧ decode 0x1A00037B = .ppiWrBsr 2 7 5 1 ∧
    decode 0x10000400 = .busOor 1 0 := by decide

theorem test_decode_prot :
    decode 0x20000D00 = .protRd13 ∧ decode 0x28000D4E = .protWr13 0x4E ∧
    decode 0x20000500 = .protRd 5 ∧ decode 0x2800052A = .protWr 5 0x2A ∧
    decode 0x20001000 = .busOor 2 0 ∧ decode 0x28001001 = .busOor 2 1 := by decide

theorem test_decode_snd :
    decode 0x31000000 = .sndLatchRd 1 ∧ decode 0x38000081 = .sndLatchWr 0 0x81 ∧
    decode 0x380001FE = .sndSpeechResetWr 0 ∧ decode 0x38000201 = .sndSpeechStartWr 1 ∧
    decode 0x38000301 = .sndSpeechVcuWr 1 ∧ decode 0x3800043F = .sndSpeechDataWr 0x3F ∧
    decode 0x38000501 = .sndCpuResetWr 0x01 ∧ decode 0x32000000 = .busOor 3 0 ∧
    decode 0x30000100 = .busOor 3 0 ∧ decode 0x38000611 = .busOor 3 1 := by decide

theorem test_decode_vram_and_spr :
    decode 0x41000000 = .vramRd 1 0 ∧ decode 0x48FFFF01 = .vramWr 0 0xFFFF 0x01 ∧
    decode 0x50000300 = .sprRamRd 0 3 ∧ decode 0x58000308 = .sprRamWr 0 3 0x08 ∧
    decode 0x51800500 = .sprCtrlRd 1 5 ∧ decode 0x59800401 = .sprCtrlWr 1 4 0x01 ∧
    decode 0x52000000 = .busOor 5 0 := by decide

theorem test_decode_road :
    decode 0x60000600 = .roadCollRd ∧ decode 0x680006AA = .roadCollClr ∧
    decode 0x60000100 = .roadRegRd 1 ∧ decode 0x680001F0 = .roadRegWr 1 0xF0 ∧
    decode 0x60000700 = .roadRegRd 7 ∧ decode 0x60100000 = .roadSprRd 0 ∧
    decode 0x6810007F = .roadSprWr 0 0x7F ∧ decode 0x60000800 = .busOor 6 0 := by decide

theorem test_decode_ctl_nv_inp :
    decode 0x70000000 = .ctlPalbankRd ∧ decode 0x78000003 = .ctlPalbankWr 0x03 ∧
    decode 0x70014000 = .ctlScrollRd 0x40 ∧ decode 0x780101FF = .ctlScrollWr 1 0xFF ∧
    decode 0x70000100 = .busOor 7 0 ∧ decode 0x80004000 = .nvRd 0x40 ∧
    decode 0x88001099 = .nvWr 0x10 0x99 ∧ decode 0x90000100 = .inpRd 1 ∧
    decode 0x98000012 = .busOor 9 1 ∧ decode 0xA0000000 = .busOor 10 0 ∧
    decode 0xFFFFFFFF = .busOor 15 1 := by decide

/-! ### The boards and states of the tests -/

/-- The next state, where there is one. -/
def next? : Result → Option State
  | .next t => some t
  | .fault _ => none
  | .refused _ => none

/-- An OPEN function with one value. -/
def always {α β : Type} (v : β) : OpenFn α β := ⟨[], some v⟩

/-- The baseline board with a value for every OPEN function the tests reach. -/
def board : Config :=
  { baseline with
    sndCpuResetAssert := ⟨[(0x01, true)], some false⟩
    bigSprite := { baselineBigSprite with
      rawX := always 0, rawY := always 0, wrapY := always false, xLimit := 1000, xUnit := 1,
      yUnit := 1, zoomStepX := always 0x10000, zoomStepY := always 0x10000 }
    bigSprite2 := { baselineBigSprite2 with
      rawX := always 1, rawY := always 0, xLimit := 1000, yLimit := 1000 }
    road := { baselineRoad with
      area5Index := always 0, sprPriIndex := ⟨[(0, 0)], some 1⟩, collMask := always 0x0F,
      overallIndex := always 0, bgIndex := always 0, roadPalIndex := always 0,
      channelCombine := always 5, spriteXIndex := always true, srcStep := always 1,
      sprMerge := always 1, rowData := ⟨4, 0x101, [(2, 0x12345678)]⟩ }
    pal := { baselinePalette with colorProm := ⟨24, 0, [(0, 0x01)]⟩, nibble := always ⟨0, 1, 0, 1⟩ } }

/-- The state of `board` after reset, every draw 0, nothing presented. -/
def start : State := State.fresh board .zero

/-- `start` with the host about to give these answers. -/
def asked (answers : List Byte) : State :=
  { start with inputs := { mainPC := none, blob := [], answers := answers } }

/-- `start` with chip 2 replaced. -/
def withChip (ch : Chip) : State := { start with ppi := start.ppi.set 2 ch }

/-- `start` on a board with this protection table, in this mode. -/
def withTable (table : List ProtEntry) (mode : Option Byte) : State :=
  { State.fresh { board with prot := table } .zero with modeSelector := mode }

/-! ### PPI (V1 to V4, V11, section 2.2) -/

theorem test_ppiInit :
    (next? (exec (.ppiInit 4) start)).map State.ppi = some (List.replicate 4 Chip.initial) := by
  decide

theorem test_ppiWrMode_91 : (next? (exec (decode 0x1A000391) start)).map (fun t => (t.ppi[2]?, t.trace))
    = some (some ⟨0, 0, 0xFF, 0x00, 0x0F, 0x00, 0x00, 0x00, 0x91⟩,
      [.extWrite 2 .a 0xFF, .extWrite 2 .b 0x00, .extWrite 2 .c 0x0F]) := by decide

theorem test_ppiWrMode_8A : (next? (exec (decode 0x1900038A) start)).map State.trace
    = some [.extWrite 1 .a 0x00, .extWrite 1 .b 0xFF, .extWrite 1 .c 0xF0] := by decide

theorem test_ppiWrA_on_an_input : (next? (exec (decode 0x1800003C) start)).map
    (fun t => (t.ppi[0]?.map Chip.latchA, t.trace)) = some (some 0x3C, [.extWrite 0 .a 0xFF]) := by
  decide

theorem test_ppiWrB_on_an_output :
    (next? (exec (decode 0x1A000105) (withChip { Chip.initial with ioB := 0 }))).map State.trace
      = some [.extWrite 2 .b 0x05] := by decide

theorem test_ppiWrC_mixed :
    (next? (exec (decode 0x1A0002A7) (withChip { Chip.initial with ioC := 0x0F }))).map State.trace
      = some [.extWrite 2 .c 0xAF] := by decide

theorem test_ppiRdA_input : (next? (exec (decode 0x12000000) (asked [0x5A]))).map State.trace
    = some [.extRead 2 .a, .busReturn 0x5A] := by decide

theorem test_ppiRdB_output :
    (next? (exec (decode 0x12000100)
      (withChip { Chip.initial with ioB := 0, latchB := 0x05 }))).map State.trace
      = some [.busReturn 0x05] := by decide

theorem test_ppiRdC_mixed :
    (next? (exec (decode 0x12000200)
      { asked [0x3C] with
        ppi := start.ppi.set 2 { Chip.initial with ioC := 0xF0, latchC := 0xA7 } })).map State.trace
      = some [.extRead 2 .c, .busReturn 0x37] := by decide

theorem test_ppiRdCtrl : (next? (exec (decode 0x12000300) start)).map State.trace
    = some [.busReturn 0xFF] := by decide

theorem test_ppiWrBsr_set :
    (next? (exec (decode 0x1A00037B) (withChip { Chip.initial with ioC := 0 }))).map
      (fun t => (t.ppi[2]?.map fun ch => (ch.latchC, ch.control), t.trace))
      = some (some (0x20, 0x7B), [.extWrite 2 .c 0x20]) := by decide

theorem test_ppiWrBsr_clear :
    (next? (exec (decode 0x1A00030A) (withChip { Chip.initial with ioC := 0x0F, latchC := 0xA7 }))).map
      (fun t => (t.ppi[2]?.map Chip.latchC, t.trace))
      = some (some 0x87, [.extWrite 2 .c 0x8F]) := by decide

theorem test_ppi_out_of_range : (next? (exec (decode 0x15000000) (asked [0x5A]))).map State.trace
    = some [.busReturn 0x00] := by decide

/-! ### Protection decoder (V8, V9, section 2.3) -/

theorem test_protWr13 : (next? (exec (decode 0x28000D4E) start)).map
    (fun t => (t.modeSelector, t.registers[13])) = some (some 78, 0) := by decide

theorem test_protRd13 :
    (next? (exec (decode 0x20000D00) (withTable [] (some 0xFF)))).map State.trace
      = some [.busReturn 0xFF] := by decide

theorem test_protWr_default : (next? (exec (decode 0x2800052A) start)).map
    (fun t => (t.registers[5], t.modeSelector)) = some (0x2A, none) := by decide

theorem test_protWr_masked :
    (next? (exec (decode 0x280003FF)
      (withTable [⟨.write, 3, some [some 78], .scratch (some 0x07)⟩] (some 78)))).map
      (fun t => t.registers[3]) = some 0x07 := by decide

theorem test_protRd_constant :
    (next? (exec (decode 0x20000200) (withTable [⟨.read none, 2, none, .constant 0x90⟩] none))).map
      State.trace = some [.busReturn 0x90] := by decide

theorem test_protRd_pass_through :
    (next? (exec (decode 0x20000400)
      { withTable [⟨.read none, 4, some [some 1], .passThrough 0xE000⟩] (some 1) with
        inputs := ⟨none, [], [0x77]⟩ })).map State.trace
      = some [.mainMemRead 0xE000, .busReturn 0x77] := by decide

/-! ### Sound bridge and input ports (section 2.4) -/

theorem test_sndLatchWr : (next? (exec (decode 0x39000001) start)).map
    (fun t => (t.soundlatch, t.soundlatch2, t.trace)) = some (0x00, 0x01, []) := by decide

theorem test_sndLatchRd :
    (next? (exec (decode 0x30000000) { start with soundlatch := 0x81 })).map
      (fun t => (t.soundlatch, t.trace)) = some (0x81, [.busReturn 0x81]) := by decide

theorem test_sndSpeechResetWr :
    (next? (exec (decode 0x380001FE) { start with speechReset := 1 })).map
      (fun t => (t.speechReset, t.trace)) = some (0, [.speechLine .reset 0]) := by decide

theorem test_sndSpeechStartWr : (next? (exec (decode 0x38000201) start)).map
    (fun t => (t.speechStart, t.trace)) = some (1, [.speechLine .start 1]) := by decide

theorem test_sndSpeechVcuWr : (next? (exec (decode 0x38000301) start)).map
    (fun t => (t.speechVcu, t.trace)) = some (1, [.speechLine .vcu 1]) := by decide

theorem test_sndSpeechDataWr : (next? (exec (decode 0x3800043F) start)).map State.trace
    = some [.speechLine .data 0x3F] := by decide

theorem test_sndCpuResetWr : (next? (exec (decode 0x38000501) start)).map
    (fun t => (t.sndCpuReset, t.trace)) = some (1, [.soundCpuReset 1]) := by decide

theorem test_sndCpuResetWr_release :
    (next? (exec (decode 0x38000500) { start with sndCpuReset := 1 })).map
      (fun t => (t.sndCpuReset, t.trace)) = some (0, [.soundCpuReset 0]) := by decide

theorem test_inpRd_not_busy : (next? (exec (decode 0x90000100) (asked [0x0F, 0]))).map State.trace
    = some [.inputPort 1, .speechBusy, .busReturn 0x4F] := by decide

theorem test_inpRd_busy : (next? (exec (decode 0x90000100) (asked [0xFF, 1]))).map State.trace
    = some [.inputPort 1, .speechBusy, .busReturn 0xBF] := by decide

/-! ### Tile layer, palette bank, scroll (V5, V6, V12, section 2.5) -/

/-- The tile layer of section 2.5 and V12. -/
def tileV12 : TileCfg :=
  { baselineTile with
    vramSize := 2048, cols := 32, rows := 32, codeMask := 0x03, colorMask := 0x0F, pixvals := 4,
    bankStride := 16, gfx := ⟨65536, 0, [(64 * 0x10 + 1, 3)]⟩ }

theorem test_tileDecode : tileDecode tileV12 0x00 0x34 0xA7 = ⟨0x334, 9, true⟩ ∧
    tileDecode tileV12 0x01 0x34 0xA7 = ⟨0x334, 25, true⟩ ∧
    tileDecode tileV12 0x02 0x34 0xA7 = ⟨0x334, 9, true⟩ ∧
    tileDecode tileV12 0x01 0xFF 0xFF = ⟨0x3FF, 31, true⟩ := by decide

theorem test_tilePos : tilePos tileV12 31 = (248, 0) ∧ tilePos tileV12 32 = (0, 8) ∧
    tilePos tileV12 1023 = (248, 248) := by decide

/-- One clean tile layer holding `lo`, `hi` in its one pair. -/
def withTile (lo hi : Byte) (dirty : List Bool) : State :=
  { start with
    tiles := start.tiles.map fun tl =>
      { tl with vram := (tl.vram.write 0 lo).write 1 hi, dirty := dirty } }

theorem test_vramWr_marks : (next? (exec (.vramWr 0 0 0x11) (withTile 0x10 0x20 [false, false]))).map
    (fun t => t.tiles.map fun tl => (tl.vram.read 0, tl.dirty))
      = some [(0x11, [true, false])] := by decide

theorem test_vramWr_equal_value :
    (next? (exec (.vramWr 0 1 0x20) (withTile 0x10 0x20 [false, false]))).map
      (fun t => t.tiles.map fun tl => tl.dirty) = some [[false, false]] := by decide

theorem test_vramRd : (next? (exec (.vramRd 0 1) (withTile 0x10 0x20 [false, false]))).map State.trace
    = some [.busReturn 0x20] := by decide

theorem test_vramRd_no_such_layer : (next? (exec (.vramRd 1 0) start)).map State.trace
    = some [.busReturn 0x00] := by decide

theorem test_tileRender_flip : (next? (exec (.tileRender 0) (withTile 0x00 0x84 [true, false]))).map
    (fun t => t.tiles.map fun tl => (tl.bitmap.get 7 0, tl.bitmap.get 0 0, tl.dirty))
      = some [(3, 2, [false, false])] := by decide +kernel

theorem test_tileRender_clean : (next? (exec (.tileRender 0) (withTile 0x00 0x84 [false, false]))).map
    (fun t => t.tiles.map fun tl => tl.bitmap.cells) = some [[]] := by decide

theorem test_ctlPalbankWr_bit0 :
    (next? (exec (.ctlPalbankWr 0x01)
      { withTile 0 0 [false, false] with
        spr0 := { start.spr0 with dirty := [false] }, spr1 := { start.spr1 with dirty := [false] }
      })).map (fun t => (t.palbank, t.tiles.map TileLayer.dirty, t.spr0.dirty, t.spr1.dirty))
      = some (0x01, [[true, true]], [true], [false]) := by decide

theorem test_ctlPalbankWr_other_bits :
    (next? (exec (.ctlPalbankWr 0xFF) { withTile 0 0 [false, false] with palbank := 0x03 })).map
      (fun t => (t.palbank, t.tiles.map TileLayer.dirty)) = some (0xFF, [[false, false]]) := by decide

theorem test_ctlPalbankRd : (next? (exec .ctlPalbankRd { start with palbank := 0xA5 })).map State.trace
    = some [.busReturn 0xA5] := by decide

theorem test_ctlScrollWr : (next? (exec (.ctlScrollWr 1 0xFF)
    { start with scroll := start.scroll.write 0 0x34 })).map
      (fun t => (t.scroll.read 1, scrollOffset t.scroll 0)) = some (0xFF, 0x134) := by decide

theorem test_ctlScrollRd_out_of_range : (next? (exec (.ctlScrollRd 2) start)).map State.trace
    = some [.busReturn 0x00] := by decide

/-- A layer 512 pixels wide, scrolled by 308 on row 0. -/
def scrolled (negative : Bool) : State :=
  { State.fresh { board with
      tiles := [{ baselineTile with cols := 64 }], scrollNegative := negative } .zero with
    scroll := ((Memory.unwritten .zero .scroll).write 0 0x34).write 1 0x01 }

theorem test_scrolledColumn :
    scrolledColumn (scrolled false) 0 { baselineTile with cols := 64 } 0 0 = 308 ∧
    scrolledColumn (scrolled false) 0 { baselineTile with cols := 64 } 204 7 = 0 ∧
    scrolledColumn (scrolled true) 0 { baselineTile with cols := 64 } 0 0 = 204 ∧
    scrolledColumn (scrolled true) 0 { baselineTile with cols := 64 } 308 0 = 0 := by decide

theorem test_seqScrollComp : (next? (exec .seqScrollComp
    { start with tiles := start.tiles.map fun tl => { tl with bitmap := tl.bitmap.set 2 3 7 } })).map
      (fun t => (t.frameBottom.get 2 3, t.frameBottom.get 3 2, t.frameTop.cells))
      = some (7, 0, []) := by decide +kernel

/-! ### Sprite layers (section 2.6) -/

/-- The sprite layer of section 2.6. -/
def spriteV : SpriteCfg :=
  { baselineSprite .bottom with codeMask := 0x03, colorMask := 0x07, flipMask := 0x08, bankStride := 8 }

theorem test_cellDecode : cellDecode spriteV 0x00 0x34 0x01 0x08 = ⟨0x134, 0, true⟩ ∧
    cellDecode spriteV 0x01 0x34 0x01 0x05 = ⟨0x134, 13, false⟩ := by decide

theorem test_sprRamWr : (next? (exec (.sprRamWr 0 2 0x99)
    { start with spr0 := { start.spr0 with dirty := [false, false, false, false] } })).map
      (fun t => (t.spr0.ram.read 2, t.spr0.dirty, t.spr1.ram.read 2))
      = some (0x99, [false, false, true, false], 0) := by decide

theorem test_sprRamRd_beyond : (next? (exec (.sprRamRd 1 64) start)).map State.trace
    = some [.busReturn 0x00] := by decide

theorem test_sprRamRd : (next? (exec (.sprRamRd 1 63)
    { start with spr1 := { start.spr1 with ram := start.spr1.ram.write 63 0x42 } })).map State.trace
      = some [.busReturn 0x42] := by decide

theorem test_sprCtrlWr : (next? (exec (decode 0x59800401) start)).map (fun t => t.bs2ctrl[4])
    = some 0x01 := by decide

theorem test_sprCtrlWr_beyond : (next? (exec (decode 0x58800801) start)).map (fun t => t.bsctrl)
    = some start.bsctrl := by decide

theorem test_sprCtrlRd_beyond : (next? (exec (decode 0x51800500) start)).map State.trace
    = some [.busReturn 0x00] := by decide

theorem test_sprRefresh : (next? (exec (.sprRefresh 0)
    { start with spr0 := { start.spr0 with dirty := List.replicate 4 false ++ [true] } })).map
      (fun t => (t.spr0.dirty, t.spr0.bitmap.get 1 0, t.spr0.bitmap.get 0 0))
      = some ([false, false, false, false, false], 8, 0) := by decide

theorem test_sourceOf : sourceOf 0x00FFFFFF (-0x10000) 0 = 255 ∧
    sourceOf 0x00FFFFFF (-0x10000) 1 = 254 ∧ sourceOf 0x00FFFFFF (-0x10000) 255 = 0 ∧
    sourceOf 0x00FFFFFF (-0x10000) 256 = -1 := by decide

theorem test_bsDecode_zoom :
    (bsDecode baselineBigSprite #v[0x40, 0x01, 0, 0, 0, 0, 0, 0]).zoom = 0x140 := by decide

/-- `start` with an opaque pixel 7 at (3, 0) of both sprite bitmaps, everything else transparent. -/
def withSprites : State :=
  { start with
    spr0 := { start.spr0 with bitmap :=
      ⟨16, 1, .zero, .sbitmap 0, (List.range 16).map fun i => (i, if i = 3 then 7 else 8)⟩ }
    spr1 := { start.spr1 with bitmap :=
      ⟨16, 1, .zero, .sbitmap 1, (List.range 16).map fun i => (i, if i = 3 then 7 else 8)⟩ }
    bsctrl := #v[1, 0, 0, 0, 0, 0, 0, 1] }

theorem test_sprComposite0 : (next? (exec .sprComposite0 withSprites)).map
    (fun t => (t.frameTop.cells, t.frameBottom.cells)) = some ([(3, 7)], []) := by decide

theorem test_sprComposite0_zoom_zero :
    (next? (exec .sprComposite0 { withSprites with bsctrl := #v[0, 0, 0, 0, 0, 0, 0, 3] })).map
      (fun t => (t.frameTop.cells, t.frameBottom.cells)) = some ([], []) := by decide

theorem test_sprComposite1 : (next? (exec .sprComposite1 withSprites)).map
    (fun t => (t.frameTop.cells, t.frameBottom.cells)) = some ([(4, 7)], []) := by decide

/-! ### Road unit (V13, section 2.7) -/

/-- `start` with these road registers. -/
def withRoad (opa opb ipa ipb ipc roadctl : Byte) : State :=
  { start with opa := opa, opb := opb, ipa := ipa, ipb := ipb, ipc := ipc, roadctl := roadctl }

theorem test_vertAddr : vertAddr (withRoad 0xF0 0 0 0 0 0x00) 0x20 = 0x10 ∧
    vertAddr (withRoad 0xF0 0 0 0 0 0x80) 0x20 = 0xEF ∧
    vertAddr (withRoad 0xFF 0 0 0 0 0x00) 0xFF = 0xFE := by decide

theorem test_carryOf : carryOf 0xFF 0 = false ∧ carryOf 0xF8 8 = true ∧ carryOf 0x00 256 = true ∧
    carryOf 0xFF 256 = true ∧ carryOf 0xF8 264 = false := by decide

theorem test_carrySelect : carrySelect (withRoad 0 0xF8 0x12 0x34 0xA5 0) 8 = (0x34, 0xA) ∧
    carrySelect (withRoad 0 0xFF 0x12 0x34 0xA5 0) 0 = (0x12, 0x5) := by decide

theorem test_areaBit : areaBit 0xF0 8 7 8 1 = 0 ∧ areaBit 0xF0 16 0 8 1 = 1 ∧
    areaBit 0xF0 16 0 7 2 = 2 ∧ areaBit 0x00 16 0 6 4 = 0 ∧ areaBit 0xFF 0 1 5 8 = 8 := by decide

theorem test_roadEnFields :
    (babitOf baselineRoad 0x35, sliparOf baselineRoad 0x35, acciarOf baselineRoad 0x35)
      = (5, true, true) ∧
    (babitOf baselineRoad 0x07, sliparOf baselineRoad 0x07, acciarOf baselineRoad 0x07)
      = (7, false, false) := by decide

/-- The record of slot 8 in V13. -/
def slot8 : SpriteParam := ⟨0x20, 0x21, 1, 1, 4, 16, 0⟩

/-- The board of V13. -/
def boardV13 : Config :=
  { board with
    road := { board.road with
      xLast := 31, yFirst := 0, yLast := 255,
      rom1 := ⟨4096, 0, [(0x020, 0xF8), (0x120, 0xE8)]⟩, roaden := ⟨32, 0, [(1, 0x20)]⟩,
      collMask := ⟨[((false, true), 0x0F), ((true, true), 0x0F)], some 0⟩,
      sprpri := ⟨2, 0, [(1, 0x05)]⟩, spriteRow := always 0,
      rowData := ⟨16, 0x107, [(0, 0x101), (4, 0x105), (5, 0x106), (6, 0x12345678)]⟩ } }

/-- The state of V13 before its step 10. -/
def stateV13 : State :=
  { State.fresh boardV13 .zero with
    opb := 0xF0, ipb := 0x01, sprxmap := List.replicate 32 0xFFFF,
    sprparam := (Vector.replicate 16 ⟨0, 0, 0, 0, 0, 0, 0⟩).set 8 slot8 }

theorem test_offRoad_group :
    drawSpriteRow stateV13 8 slot8 0 (List.replicate 32 0)
      = [0, 0, 0, 0, 1, 1, 1, 1, 1, 1] ++ List.replicate 22 0 := by decide

theorem test_roadLine_off_road :
    (next? (exec (decode 0x09060120) stateV13)).map (fun t => (t.collision, t.sprbuf))
      = some (0x5, []) := by decide +kernel

theorem test_roadLine_on_road :
    (next? (exec (decode 0x0906011F) stateV13)).map State.collision = some 0x0 := by decide +kernel

theorem test_roadCollRd : (next? (exec .roadCollRd { start with collision := 5 })).map
    (fun t => (t.collision, t.trace)) = some (5, [.busReturn 0x05]) := by decide

theorem test_roadCollClr : (next? (exec (decode 0x680006AA) { start with collision := 5 })).map
    State.collision = some 0 := by decide

theorem test_roadRegWr : (next? (exec (decode 0x680001F0) start)).map (fun t => (t.opa, t.opb))
    = some (0x00, 0xF0) := by decide

theorem test_roadRegRd : (next? (exec (.roadRegRd 4) (withRoad 1 2 3 4 5 6))).map State.trace
    = some [.busReturn 4] := by decide

theorem test_roadRegRd_7 : (next? (exec (decode 0x60000700) (withRoad 1 2 3 4 5 6))).map State.trace
    = some [.busReturn 0] := by decide

theorem test_roadSprWr : (next? (exec (decode 0x6810007F) start)).map (fun t => t.roadspr.read 0)
    = some 0x7F := by decide

theorem test_roadSprRd : (next? (exec (decode 0x60100000)
    { start with roadspr := start.roadspr.write 0 0x7F })).map State.trace
      = some [.busReturn 0x7F] := by decide

theorem test_roadParams : (next? (exec .roadParams
    (State.fresh { board with road := { board.road with
      paramImage := [⟨1, 2, 3, 4, 5, 6, 7⟩], paramDecode := always 0,
      spriteXIndex := ⟨[], some true⟩ } } .zero))).map
        (fun t => (t.sprparam[8].rowStride, t.sprxmap.length, t.sprxmap.getD 7 0))
        = some (6, 8, 0xFFFF) := by decide

/-! ### Palette (section 2.8) -/

theorem test_weight : weight baselinePalette 0xA = 86 ∧ weight baselinePalette 0xF = 0 ∧
    weight baselinePalette 0x0 = 255 ∧ weight baselinePalette 0x5 = 169 ∧
    weight { baselinePalette with inverted := false } 0xF = 255 := by decide

theorem test_palBuild : (next? (exec .palBuild { start with rgbtable := [] })).map
    (fun t => (t.rgbtable[7]?, t.rgbtable[8]?, t.rgbtable.length))
      = some (some ⟨169, 169, 169⟩, some ⟨240, 240, 240⟩, 9) := by decide

theorem test_buildColorTable :
    buildColorTable 99 ⟨8, 0x40, 0x03, 4, [0]⟩ = [99, 0x42, 0x41, 0x40, 99, 0x46, 0x45, 0x44] ∧
    buildColorTable 99 ⟨8, 0x10, 0x07, 8, [7]⟩
      = [0x17, 0x16, 0x15, 0x14, 0x13, 0x12, 0x11, 99] := by decide

theorem test_palCtBuild : (next? (exec (.palCtBuild 0) { start with colortable := [[]] })).map
    State.colortable = some [[8, 1, 2, 3, 8, 5, 6, 7]] := by decide

/-! ### NVRAM, reset, sequencer, words no row takes (section 2.9) -/

theorem test_nvWr : (next? (exec (decode 0x88000042) start)).map (fun t => t.nvram.read 0)
    = some 0x42 := by decide

theorem test_nvRd : (next? (exec (.nvRd 15) { start with nvram := start.nvram.write 15 0x42 })).map
    State.trace = some [.busReturn 0x42] := by decide

theorem test_nvRd_beyond : (next? (exec (decode 0x80004000) start)).map State.trace
    = some [.busReturn 0x00] := by decide

theorem test_nvExport : (next? (exec .nvExport { start with nvram := start.nvram.write 1 0x42 })).map
    State.trace = some [.nvExport (0 :: 0x42 :: List.replicate 14 0)] := by decide

theorem test_nvImport : (next? (exec .nvImport
    { start with inputs := ⟨none, List.replicate 15 0 ++ [0x99], []⟩ })).map
      (fun t => (t.nvram.read 14, t.nvram.read 15)) = some (0, 0x99) := by decide

theorem test_checkConfiguration : checkConfiguration board = none := by decide

theorem test_reset_short_roaden :
    checkConfiguration { board with road := { board.road with roaden := zeroRom 2 } }
      = some .roadEn := by decide

theorem test_reset_short_rom2 :
    checkConfiguration { board with road := { board.road with rom2 := zeroRom 2048 } }
      = some .roadRom2 := by decide

/-- An unset mode latch reads as one byte until the next reset (R82), whose number is kept. -/
theorem test_protRd13_repeats :
    (next? (exec .protRd13 { start with clock := 1 })).map State.trace
      = (next? (exec .protRd13 { start with clock := 2 })).map State.trace ∧
    (next? (exec .seqReset { start with clock := 7 })).map State.resetAt = some 7 :=
  ⟨rfl, by decide⟩

/-- Rule R346's window: ROAD_X_LAST - ROAD_X_FIRST + 1 is -1 for 5 and 3. -/
theorem test_reset_window :
    checkConfiguration { board with road := { board.road with xFirst := 5, xLast := 3 } }
      = some .sweepWindow := by decide

/-- A board's index value one past its table is refused, by the table's name (R10, R346). -/
theorem test_reset_index_beyond :
    checkConfiguration { board with road := { board.road with sprPriIndex := ⟨[(3, 2)], some 1⟩ } }
      = some .sprPri ∧
    checkConfiguration { board with road := { board.road with area5Index := ⟨[(7, 8)], some 0⟩ } }
      = some .roadRom5 ∧
    checkConfiguration { board with road := { board.road with area5Index := ⟨[(8, 8)], some 0⟩ } }
      = none ∧
    checkConfiguration { board with road := { board.road with channelCombine := always 8 } }
      = some .channelCombine ∧
    checkConfiguration { board with pal := { board.pal with nibble := ⟨[((7, .b), ⟨0, 1, 0, 192⟩)],
      some ⟨0, 1, 0, 191⟩⟩ } } = some .colorProm := by decide

/-- A record whose row is drawn on scanline 2. -/
def row2 : SpriteParam := ⟨2, 3, 1, 1, 0, 4, 0⟩

/-- `board` with the one record `row2`, this step of the source position and this row data. -/
def rowBoard (srcStep : Nat) (data : Rom PixelWord) : Config :=
  { board with road := { board.road with
    paramImage := [row2], paramDecode := always 0, spriteRow := always 0, srcStep := always srcStep,
    rowData := data } }

/-- A zoomed row that steps over its sentinel and out of the data is refused (R349). -/
theorem test_reset_row_data :
    checkConfiguration (rowBoard 1 ⟨4, 0x101, [(3, 0x12345678)]⟩) = none ∧
    checkConfiguration (rowBoard 2 ⟨4, 0x101, [(3, 0x12345678)]⟩) = some .spriteRowData ∧
    checkConfiguration (rowBoard 1 ⟨4, 0x101, []⟩) = some .spriteRowData := by decide

theorem test_seqReset : (next? (exec .seqReset
    { start with
      modeSelector := some 1, nvram := start.nvram.write 0 0x42, tiles := [] })).map
      (fun t => (t.modeSelector, t.nvram.read 0, t.ppi, t.tiles.map TileLayer.dirty))
      = some (none, 0x42, List.replicate 4 Chip.initial, [[true, true]]) := by decide

theorem test_seqCollOnly_tile_board : next? (exec .seqCollOnly
    (State.fresh { board with roadBoard := false } .zero))
      = some (State.fresh { board with roadBoard := false } .zero) := by decide

theorem test_seqFrame : (next? (exec (.seqFrame 1)
    (State.fresh { board with roadBoard := false } .zero))).map
      (fun t => (t.tiles.map TileLayer.dirty, t.frameBottom.get 0 0, t.trace.length))
      = some ([[false, false]], 1, 1) := by decide +kernel

theorem test_ppiInit_above_four : next? (exec (decode 0x08010005) start) = none := by decide

theorem test_busOor : (next? (exec (decode 0x52000000) start)).map State.trace
    = some [.busReturn 0x00] := by decide

/-! ### One step (R75, R76, R88) -/

/-- The sound CPU reaches its latch through its own map, and no unit through the main CPU's (R73). -/
theorem test_step_soundCpu :
    let s := { State.fresh { board with
      busmap := [⟨.ioPort 0x10, 4, 0, 0⟩], soundBus := [⟨.ioPort 0x20, 1⟩] } .zero with
      soundlatch2 := 0x42 }
    let reads (port : Byte) := (next? (step { s with
      pending := [⟨.access .soundCpu (.ioPort port) false 0x00, Beside.nothing⟩] })).map State.trace
    reads 0x20 = some [.busReturn 0x42] ∧ reads 0x10 = some [] := by decide

theorem test_step_idle : (next? (step State.reset)).map State.clock = some 0 := by decide

/-! ### Witnesses: for every statement with hypotheses, values that meet them, at the boundaries -/

/-- `start` about to execute the word `w`. -/
def presenting (w : Nat) : State := start.withFetchWord 32 w

theorem witness_DecodeEncode : (Instr.protWr 15 0xFF).wellFormed = true ∧
    (Instr.roadRegRd 7).wellFormed = true ∧ (Instr.busOor 15 1).wellFormed = true := by decide

/-- A board whose map sends address 0x8000 of the main CPU to tile layer 0 and of the sound CPU to the
second latch, and ports to PROT. -/
def mapped : State :=
  State.fresh { board with
    busmap := [⟨.memory 0x7FFF, 1, 0, 0⟩, ⟨.memory 0x8000, 4, 0, 0⟩, ⟨.memory 0x8000, 6, 0, 6⟩],
    soundBus := [⟨.memory 0x8000, 1⟩, ⟨.memory 0x8000, 0⟩] } .zero

theorem witness_StepRunsTheDecodedOperation :
    (∃ r rest, (presenting 0x08000101).pending = r :: rest ∧ r.what = .word 0x08000101) ∧
    busTarget mapped.cfg .mainCpu (.memory 0x8000) = some (4, 0, 0) ∧
    busTarget mapped.cfg .mainCpu (.ioPort 0xF7) = some (2, 0, 15) ∧
    busTarget mapped.cfg .soundCpu (.memory 0x8000) = some (3, 1, 0) ∧
    busTarget mapped.cfg .mainCpu (.memory 0x8001) = none ∧
    (mapped.cfg.busmap = [⟨.memory 0x7FFF, 1, 0, 0⟩] ++ ⟨.memory 0x8000, 4, 0, 0⟩ ::
        [⟨.memory 0x8000, 6, 0, 6⟩] ∧
      ∀ x ∈ [(⟨.memory 0x7FFF, 1, 0, 0⟩ : BusEntry)], x.address ≠ .memory 0x8000) ∧
    ((∀ x ∈ mapped.cfg.busmap, x.address ≠ .ioPort 0x17) ∧
      mapped.cfg.protPort[(1 : Fin 16)] = 0x17 ∧
      ∀ m < (1 : Fin 16), mapped.cfg.protPort[m] ≠ mapped.cfg.protPort[(1 : Fin 16)]) ∧
    ((∀ x ∈ mapped.cfg.busmap, x.address ≠ .memory 0x8001) ∧
      ∀ n : Fin 16, BusAddress.memory 0x8001 ≠ .ioPort mapped.cfg.protPort[n]) ∧
    mapped.cfg.soundBus = [] ++ ⟨.memory 0x8000, 1⟩ :: [⟨.memory 0x8000, 0⟩] ∧
    ∀ x ∈ mapped.cfg.soundBus, x.address ≠ .ioPort 0x17 :=
  ⟨⟨_, _, rfl, rfl⟩, by decide, by decide, by decide, by decide, by decide, by decide, by decide,
    by decide, by decide⟩

/-- For PpiDataWrites, PpiReadsOfPortCAndControl, PpiModeSet and PpiBitSetReset. -/
theorem witness_ppi_chip : (3#3).toNat < start.cfg.nchip ∧
    start.ppi[(3#3).toNat]? = some Chip.initial := by decide

theorem witness_PpiReadsOfPortsAAndB : (2#3).toNat < start.cfg.nchip ∧
    (withChip { Chip.initial with ioA := 0 }).ppi[(2#3).toNat]? =
      some { Chip.initial with ioA := 0 } ∧
    (withChip { Chip.initial with ioB := 0 }).ppi[(2#3).toNat]? =
      some { Chip.initial with ioB := 0 } ∧ Chip.initial.ioA ≠ 0x00 ∧ Chip.initial.ioB ≠ 0x00 := by
  decide

theorem witness_PpiOutOfRange : start.cfg.nchip ≤ (4#3).toNat := by decide

theorem witness_PpiInit : (4#8).toNat ≤ 4 ∧ 4 < (5#8).toNat := by decide

theorem witness_StepKeepsDirectionMasks : (presenting 0x1A000381).masksOk ∧
    ∃ t, step (presenting 0x1A000381) = .next t ∧ t.ppi[2]?.map Chip.ioC = some 0x0F :=
  ⟨by decide, _, rfl, by decide⟩

theorem witness_CallbacksSeeOnesOnInputs : ∃ t, step (presenting 0x1A0002A7) = .next t ∧
    Event.extWrite 2 .c 0xFF ∈ t.trace := ⟨_, rfl, by decide⟩

theorem witness_ProtModeLatch : (withTable [] (some 0xFF)).modeSelector = some 0xFF ∧
    (start.modeSelector = none ∧ start.cfg.protUnsetRead13 = none) ∧
    (let s := State.fresh { board with protUnsetRead13 := some 0x00 } .zero
     s.modeSelector = none ∧ s.cfg.protUnsetRead13 = some 0x00) := by decide

/-- A table with every kind of entry on the write side; the first does not apply in mode 1. -/
def writeTable : List ProtEntry :=
  [⟨.write, 3, some [some 78], .constant 0⟩, ⟨.write, 3, some [some 1, none], .scratch (some 0x07)⟩,
   ⟨.write, 4, none, .passThrough 0xE000⟩, ⟨.write, 6, none, .scratch none⟩,
   ⟨.write, 7, none, .constant 0x90⟩]

theorem witness_ProtWritePerformsTheFirstEntry :
    (∃ pre e post, writeTable = pre ++ e :: post ∧ (∀ x ∈ pre, ¬appliesToWrite x 3 (some 1)) ∧
      appliesToWrite e 3 (some 1) ∧ e.action = .scratch (some 0x07)) ∧
    (∃ pre e post, writeTable = pre ++ e :: post ∧ (∀ x ∈ pre, ¬appliesToWrite x 4 none) ∧
      appliesToWrite e 4 none ∧ e.action = .passThrough 0xE000) ∧
    (∃ pre e post, writeTable = pre ++ e :: post ∧ (∀ x ∈ pre, ¬appliesToWrite x 6 none) ∧
      appliesToWrite e 6 none ∧ e.action = .scratch none) ∧
    (∃ pre e post, writeTable = pre ++ e :: post ∧ (∀ x ∈ pre, ¬appliesToWrite x 7 none) ∧
      appliesToWrite e 7 none ∧ e.action = .constant 0x90) ∧
    ∀ x ∈ writeTable, ¬appliesToWrite x 5 (some 1) := by
  refine ⟨⟨[⟨.write, 3, some [some 78], .constant 0⟩], _, _, rfl, ?_, ?_, rfl⟩,
    ⟨writeTable.take 2, _, _, rfl, ?_, ?_, rfl⟩, ⟨writeTable.take 3, _, _, rfl, ?_, ?_, rfl⟩,
    ⟨writeTable.take 4, _, _, rfl, ?_, ?_, rfl⟩, ?_⟩ <;>
    simp [appliesToWrite, modeHolds, writeTable]

/-- The same on the read side; the first entry wants a program counter from 0x100 on. -/
def readTable : List ProtEntry :=
  [⟨.read (some [(0x100, 0x1FF)]), 2, none, .constant 0⟩, ⟨.read none, 2, none, .constant 0x90⟩,
   ⟨.read none, 4, some [some 1], .passThrough 0xE000⟩, ⟨.read none, 6, none, .scratch none⟩,
   ⟨.read none, 7, none, .scratch (some 0x07)⟩]

theorem witness_ProtReadPerformsTheFirstEntry :
    (∃ pre e post, readTable = pre ++ e :: post ∧ (∀ x ∈ pre, ¬appliesToRead x 2 none 0xFF) ∧
      appliesToRead e 2 none 0xFF ∧ e.action = .constant 0x90) ∧
    (∃ pre e post, readTable = pre ++ e :: post ∧ (∀ x ∈ pre, ¬appliesToRead x 2 none 0x1FF) ∧
      appliesToRead e 2 none 0x1FF ∧ e.action = .constant 0) ∧
    (∃ pre e post, readTable = pre ++ e :: post ∧ (∀ x ∈ pre, ¬appliesToRead x 4 (some 1) 0) ∧
      appliesToRead e 4 (some 1) 0 ∧ e.action = .passThrough 0xE000) ∧
    (∃ pre e post, readTable = pre ++ e :: post ∧ (∀ x ∈ pre, ¬appliesToRead x 6 none 0) ∧
      appliesToRead e 6 none 0 ∧ e.action = .scratch none) ∧
    (∃ pre e post, readTable = pre ++ e :: post ∧ (∀ x ∈ pre, ¬appliesToRead x 7 none 0) ∧
      appliesToRead e 7 none 0 ∧ e.action = .scratch (some 0x07)) ∧
    ∀ x ∈ readTable, ¬appliesToRead x 4 none 0 := by
  refine ⟨⟨readTable.take 1, _, _, rfl, ?_, ?_, rfl⟩, ⟨[], _, _, rfl, ?_, ?_, rfl⟩,
    ⟨readTable.take 2, _, _, rfl, ?_, ?_, rfl⟩, ⟨readTable.take 3, _, _, rfl, ?_, ?_, rfl⟩,
    ⟨readTable.take 4, _, _, rfl, ?_, ?_, rfl⟩, ?_⟩ <;>
    simp [appliesToRead, modeHolds, readTable]

theorem witness_ProtRoundTrips : start.cfg.prot = [] := rfl

theorem witness_SpeechAndResetLines :
    openAt start.cfg.sndCpuResetAssert Config.freeSndCpuResetAssert 0x01 = true ∧
    openAt start.cfg.sndCpuResetAssert Config.freeSndCpuResetAssert 0x00 = false := by decide

theorem witness_InputPortRead : start.cfg.ninput ≤ (4#16).toNat ∧
    ((3#16).toNat < start.cfg.ninput ∧ start.cfg.speechStatusPort ≠ some (3#16).toNat) ∧
    ((1#16).toNat < start.cfg.ninput ∧ start.cfg.speechStatusPort = some (1#16).toNat) := by decide

theorem witness_VramWrite : ∃ tc tl, start.cfg.tiles[(0#3).toNat]? = some tc ∧
    start.tiles[(0#3).toNat]? = some tl ∧ (1#16).toNat < tc.vramSize ∧ tl.vram.wf ∧
    tl.dirty.length = tc.vramSize ∧ 0x00 = tl.vram.read 1 ∧ 0x42 ≠ tl.vram.read 1 :=
  ⟨_, _, rfl, rfl, by decide, by decide, by decide, by decide, by decide⟩

theorem witness_VramReadAndRange :
    (∃ tc tl, start.cfg.tiles[(0#3).toNat]? = some tc ∧ start.tiles[(0#3).toNat]? = some tl ∧
      (1#16).toNat < tc.vramSize ∧ tc.vramSize ≤ (2#16).toNat) ∧
    start.cfg.tiles.length ≤ (1#3).toNat :=
  ⟨⟨_, _, rfl, rfl, by decide, by decide⟩, by decide⟩

theorem witness_PaletteBankWrite : ∃ tc tl, start.cfg.tiles[0]? = some tc ∧
    start.tiles[0]? = some tl ∧ bankBit 0x01 tc.mon ≠ bankBit start.palbank tc.mon ∧
    ¬(bankBit 0x02 tc.mon ≠ bankBit start.palbank tc.mon) ∧
    bankBit 0x02 start.cfg.spr1.mon ≠ bankBit start.palbank start.cfg.spr1.mon ∧
    ¬(bankBit 0x02 start.cfg.spr0.mon ≠ bankBit start.palbank start.cfg.spr0.mon) :=
  ⟨_, _, rfl, rfl, by decide, by decide, by decide, by decide⟩

theorem witness_PaletteBankReadAndScrollTable : start.scroll.wf ∧
    (1#8).toNat < 2 * start.cfg.scrollRows ∧ 2 * start.cfg.scrollRows ≤ (2#8).toNat := by decide

theorem witness_TileRender : start.cfg.tiles.length ≤ (1#3).toNat ∧
    ∃ tc tl, start.cfg.tiles[(0#3).toNat]? = some tc ∧ start.tiles[(0#3).toNat]? = some tl ∧
      tc.vramSize % 2 = 0 ∧ tl.dirty.length = tc.vramSize :=
  ⟨by decide, _, _, rfl, rfl, by decide, by decide⟩

theorem witness_TileRenderRedrawsExactlyTheDirtyPairs :
    ∃ tc tl tl', start.cfg.tiles[(0#3).toNat]? = some tc ∧ start.tiles[(0#3).toNat]? = some tl ∧
      (withTile 0x00 0x84 [false, false]).tiles[(0#3).toNat]? = some tl' ∧
      vramSizeOk tc = true ∧ tilePosOk tc = true ∧ tl.sizedBy tc ∧ tl'.sizedBy tc ∧
      tl.bitmap.wf ∧ tl'.bitmap.wf ∧ 0 < tc.vramSize / 2 ∧ dirtyBit tl.dirty 0 = true ∧
      dirtyBit tl'.dirty 0 = false :=
  ⟨_, _, _, rfl, rfl, rfl, by decide, by decide, by decide, by decide, by decide, by decide,
    by decide, by decide, by decide⟩

/-- `start` is of the size its board gives it, whatever is presented. -/
theorem presenting_sized (w : Nat) : (presenting w).sized :=
  ⟨rfl, List.Forall₂.cons ⟨rfl, rfl, rfl⟩ List.Forall₂.nil, ⟨rfl, rfl, rfl⟩, ⟨rfl, rfl, rfl⟩,
    ⟨rfl, rfl⟩, ⟨rfl, rfl⟩, rfl, rfl⟩

/-- A layer with its one pair drawn and clean, one pixel of it opaque, about to take a word. -/
def drawn (w : Nat) : State :=
  { presenting w with
    tiles := start.tiles.map fun tl =>
      { tl with
        dirty := [false, false]
        bitmap := { tl.bitmap with
          cells := (0, 1) :: (List.range 63).map fun i => (i + 1, 8) } } }

theorem witness_StepKeepsTileCoherence :
    checkConfiguration (drawn 0x08000100).cfg = none ∧ (drawn 0x08000100).sized ∧
    (drawn 0x08000100).canonical ∧ (drawn 0x08000100).tablesBuilt ∧ (drawn 0x08000100).coherent ∧
    ∃ t, step (drawn 0x08000100) = .next t := by
  refine ⟨by decide, ⟨by decide, List.Forall₂.cons (by decide) List.Forall₂.nil, by decide⟩,
    by decide +kernel, ⟨rfl, rfl⟩, ?_, _, rfl⟩
  intro L tc tl hc ht
  cases L with
  | succ n => simp [drawn, presenting, State.withFetchWord, start, State.fresh, board, baseline] at hc
  | zero =>
    cases hc; cases ht
    intro t ht' _ _
    obtain rfl : t = 0 := by
      have : t < 1 := ht'
      omega
    decide +kernel

theorem witness_SpriteRam : 64 * start.cfg.spr0.rows ≤ (64#15).toNat ∧
    (63#15).toNat < 64 * start.cfg.spr1.rows ∧ 0x00 = start.spr0.ram.read (63#15).toNat ∧
    0x42 ≠ start.spr1.ram.read (63#15).toNat ∧ start.spr1.ram.wf ∧
    start.spr1.dirty.length = 64 * start.cfg.spr1.rows := by decide

theorem witness_SpriteControl : (7#15).toNat < 8 ∧ 8 ≤ (8#15).toNat ∧ (4#15).toNat < 5 ∧
    5 ≤ (5#15).toNat := by decide

theorem witness_SpriteRefresh : start.spr0.dirty.length = 64 * start.cfg.spr0.rows ∧
    start.spr1.dirty.length = 64 * start.cfg.spr1.rows ∧ start.spr0.sizedBy start.cfg.spr0 ∧
    start.spr1.sizedBy start.cfg.spr1 ∧ start.spr0.bitmap.wf ∧ start.spr1.bitmap.wf ∧
    15 < 16 * start.cfg.spr0.rows ∧ 0 < start.cfg.spr0.cellH ∧ 0 < start.cfg.spr0.cellW ∧
    dirtyBit start.spr0.dirty (4 * 15 + 3) = true ∧
    dirtyBit (List.replicate 64 false) (4 * 15 + 3) = false ∧ 2 ≤ (2#3).toNat := by decide

theorem witness_SpriteCompositeZoomed :
    let f := bsDecode board.bigSprite withSprites.bsctrl
    f.zoom ≠ 0 ∧ f.enTop = true ∧ f.enBottom = false ∧
    (bsDecode board.bigSprite start.bsctrl).zoom = 0 ∧ (withSprites.frame .top).wf ∧
    (withSprites.frame .top).covers 3 0 = true ∧ (withSprites.frame .top).covers 7 7 = true ∧
    ((withSprites.vis .top).x ≤ 3 ∧ 3 < (withSprites.vis .top).x + (withSprites.vis .top).w ∧
      (withSprites.vis .top).y ≤ 0 ∧ 0 < (withSprites.vis .top).y + (withSprites.vis .top).h) ∧
    (bsTransform board.bigSprite 16 0 0 1 false) = ⟨0, 0, 0x10000, 0x10000⟩ ∧
    sourceOf 0 0x10000 3 = 3 ∧ sourceOf 0 0x10000 7 = 7 ∧
    withSprites.spr0.bitmap.get 3 0 = 7 ∧ withSprites.spr0.bitmap.get 2 0 = transparent board := by
  decide

theorem witness_SpriteCompositeUnzoomed :
    (withSprites.frame .top).wf ∧ (withSprites.frame .top).covers 4 0 = true ∧
    withSprites.cfg.spr1.mon = .top ∧ Monitor.bottom ≠ withSprites.cfg.spr1.mon ∧
    bs2Position board.bigSprite2 (bs2Decode board.bigSprite2 withSprites.bs2ctrl) = (1, 0) ∧
    (bs2Decode board.bigSprite2 withSprites.bs2ctrl).flip = false ∧
    withSprites.spr1.bitmap.get 3 0 = 7 ∧ 7 ≠ transparent board := by decide

theorem witness_RoadSpriteRam : start.roadspr.wf ∧ (15#12).toNat < start.cfg.road.sprSize ∧
    start.cfg.road.sprSize ≤ (16#12).toNat := by decide

/-- A state of a tile board. -/
def tileBoard : State := State.fresh { board with roadBoard := false } .zero

theorem witness_RoadParams : start.cfg.roadBoard = true ∧ tileBoard.cfg.roadBoard = false ∧
    start.cfg.road.xFirst ≤ 0 ∧ 7 ≤ start.cfg.road.xLast := by decide

theorem witness_RoadLine : tileBoard.cfg.roadBoard = false ∧ start.cfg.roadBoard = true ∧
    (1#8).toNat < start.cfg.road.yFirst ∧ start.cfg.road.yLast < (4#8).toNat ∧
    start.cfg.road.yFirst ≤ (2#8).toNat ∧ (3#8).toNat ≤ start.cfg.road.yLast ∧
    swept start.cfg.road 0 = true ∧ swept start.cfg.road 7 = true ∧ swept start.cfg.road 8 = false ∧
    (start.frame start.cfg.road.mon).wf ∧ (start.frame start.cfg.road.mon).covers 7 3 = true ∧
    Monitor.top ≠ start.cfg.road.mon := by decide

/-- What the columns of V13's scanline give: off-road from column 8 to 15, and the sprite's priority
there at its columns. -/
theorem test_line_V13 : lineAddress stateV13 0x20 = 0x20 ∧ lineOffRoad stateV13 0x20 7 = false ∧
    lineOffRoad stateV13 0x20 8 = true ∧ lineSprite stateV13 0x20 8 = 1 ∧
    lineSprite stateV13 0x20 4 = 0 ∧ lineCollision stateV13 0x20 8 = 0x5 ∧
    lineCollision stateV13 0x20 4 = 0 ∧ linePixel stateV13 0x20 8 0 = 5 := by decide +kernel

theorem witness_SentinelEndsTheRow :
    (stateV13.cfg.road.xFirst ≤ 4 ∧ 31 < stateV13.cfg.road.xFirst + (List.replicate 32 0).length ∧
      slot8.xoffset + 0 = 4 ∧ 31 ≤ stateV13.cfg.road.xLast ∧
      (columnMask stateV13 4).getLsbD 8 = true ∧
      ∀ m ≤ 5, rowWord stateV13.cfg.road (0 + srcPos stateV13.cfg.road slot8 m) ≠ 0x12345678) ∧
    (slot8.miny ≤ 0x20 ∧ 0x20 < slot8.maxy) ∧
    (checkConfiguration (rowBoard 1 ⟨4, 0x101, [(3, 0x12345678)]⟩) = none ∧
      (rowBoard 1 ⟨4, 0x101, [(3, 0x12345678)]⟩).roadBoard = true ∧ row2.miny ≤ 2 ∧
      2 < row2.maxy) ∧
    (∃ t, exec .roadParams (State.fresh (rowBoard 1 ⟨4, 0x101, [(3, 0x12345678)]⟩) .zero) = .next t) ∧
    (∀ n, openAt stateV13.cfg.road.srcStep Config.freeSrcStep (slot8, n) = 1) ∧
    rowWord stateV13.cfg.road (0 + 6) = 0x12345678 ∧ slot8.xoffset + 6 ≤ 10 :=
  ⟨by decide, by decide, by decide, ⟨_, rfl⟩, fun _ => rfl, by decide, by decide⟩

theorem witness_OffRoadGroupDrawnOnce : stateV13.offroadDrawn = false ∧
    offRoadAt stateV13 0x20 8 0 = true ∧ offRoadAt stateV13 0x20 0 7 = false ∧
    offRoadAt stateV13 0x20 16 0 = false ∧ offRoadAt stateV13 0x20 24 7 = true := by decide

/-- The weights of every bit of the other family sum to 255, the most that 8 bits hold. -/
theorem witness_PaletteBuild : start.cfg.pal.inverted = true ∧
    (let c := { baselinePalette with inverted := false }
     c.inverted = false ∧ c.weight0 + c.weight1 + c.weight2 + c.weight3 ≤ 255) ∧
    palNibble start.cfg.pal 7 .b = 0x5 := by decide

theorem witness_ColorTableBuild : start.cfg.cts.length ≤ (1#3).toNat ∧
    start.cfg.cts[(0#3).toNat]? = some ⟨8, 0, 0, 4, [0]⟩ := by decide

theorem witness_TransparentMarkerIsUnique : checkConfiguration board = none ∧
    7 < board.pal.entries := by decide

theorem witness_StepKeepsTheTables : (presenting 0x08070100).tablesBuilt ∧
    ∃ t, step (presenting 0x08070100) = .next t := ⟨⟨rfl, rfl⟩, _, rfl⟩

theorem witness_SeqReset : checkConfiguration { board with nchip := 5 } = some .nchip ∧
    checkConfiguration start.cfg = none ∧ start.cfg.tiles[0]? = some baselineTile := by decide

theorem board_tile {L : Nat} {tc : TileCfg} (h : board.tiles[L]? = some tc) : tc = baselineTile := by
  have hm : tc ∈ [baselineTile] := List.mem_of_getElem? h
  simpa using hm

/-- `board` meets every row of R346's table. -/
theorem board_rows : ∀ name, ¬tableFails board name := by
  intro name h
  cases name
  case nchip => exact absurd (show 4 < board.nchip from h) (by decide)
  case vramSize L =>
    obtain ⟨tc, hL, h⟩ := h
    obtain rfl := board_tile hL
    revert h; decide
  case tilePos L =>
    obtain ⟨tc, table, hL, h, _⟩ := h
    obtain rfl := board_tile hL
    cases h
  case tileGfx L =>
    obtain ⟨tc, hL, h⟩ := h
    obtain rfl := board_tile hL
    rcases h with h | ⟨i, hi, h⟩
    · exact absurd h (by decide)
    · exact absurd (romPixel_lt (by decide) hi) (Nat.not_lt.2 h)
  case tileColorTable L =>
    obtain ⟨tc, hL, h⟩ := h
    obtain rfl := board_tile hL
    revert h; decide
  case sprGfx S =>
    rcases h with ⟨_, _, h | ⟨i, hi, h⟩⟩ | ⟨_, _, h | ⟨i, hi, h⟩⟩
    · exact absurd h (by decide)
    · exact absurd (romPixel_lt (by decide) hi) (Nat.not_lt.2 h)
    · exact absurd h (by decide)
    · exact absurd (romPixel_lt (by decide) hi) (Nat.not_lt.2 h)
  case sprColorTable S =>
    rcases h with ⟨_, _, h⟩ | ⟨_, _, h⟩ <;> exact absurd h (by decide)
  case colorProm =>
    obtain ⟨e, _, ch, place, hp, h⟩ := h
    have : place = 0 ∨ place = 1 := by
      have hp : place ∈ [0, 1, 0, 1] := hp
      simp at hp; omega
    have h : 24 ≤ place / 8 := h
    omega
  case ctRange g =>
    obtain ⟨ct, hg, v, hv, h, h'⟩ := h
    have : ct ∈ [⟨8, 0, 0, 4, [0]⟩] := List.mem_of_getElem? hg
    obtain rfl := by simpa using this
    revert h'; clear h; revert v; decide
  case transparentRgb =>
    obtain ⟨nr, _, _, h⟩ := h
    have h' : (240 : Byte) = weight board.pal nr := congrArg RGB.r h
    clear h; revert h'; revert nr; decide
  case roadRom1 => exact absurd h.2 (by decide)
  case roadRom2 => exact absurd h.2 (by decide)
  case roadRom3 => exact absurd h.2 (by decide)
  case roadRom4 => exact absurd h.2 (by decide)
  case roadEn => exact absurd h.2 (by decide)
  case roadRom5 =>
    obtain ⟨_, px, _, _, h⟩ := h
    exact absurd (openIndex_lt (by decide) _ px) (Nat.not_lt.2 h)
  case sprPri => exact not_overruns (by decide) h.2
  case overall => exact not_overruns (by decide) h.2
  case bgPal => exact not_overruns (by decide) h.2
  case roadPal => exact not_overruns (by decide) h.2
  case channelCombine => exact not_overruns (by decide) h.2
  case spriteRowData =>
    obtain ⟨_, h | ⟨P, hP, y, _, _, h1, h2, _⟩⟩ := h
    · exact not_overruns (by decide) h
    · have hP : P ∈ [default] := hP
      obtain rfl := by simpa using hP
      exact absurd h2 (Nat.not_lt_zero y)
  case sweepWindow =>
    rcases h with ⟨_, h⟩ | h | h
    · exact absurd h (by decide)
    · exact absurd (show 8 < 8 ∨ 8 < 8 from h) (by decide)
    · exact absurd (show 8 < 8 ∨ 8 < 8 from h) (by decide)
  case scrollRows =>
    obtain ⟨_, h | ⟨tc, hL, h⟩⟩ := h
    · exact absurd h (by decide)
    · obtain rfl := board_tile hL
      exact absurd h (by decide)
  case roadSprSize => exact absurd (show 4096 < 16 from h) (by decide)
  case protTable =>
    obtain ⟨e, he, _⟩ := h
    cases he

/-- A board that meets every row of R346's table, and boards that fail one each. -/
theorem witness_ResetRefusesMalformedBoards : (∀ name, ¬tableFails board name) ∧
    tableFails { board with nchip := 5 } .nchip ∧
    tableFails { board with road := { board.road with roaden := zeroRom 31 } } .roadEn ∧
    tableFails { board with prot := [⟨.write, 13, none, .scratch none⟩] } .protTable :=
  ⟨board_rows, show 4 < 5 by decide, ⟨rfl, show 31 < 32 by decide⟩, _, List.mem_cons_self, .inl rfl⟩

theorem witness_SeqFrame : (presenting 0).sized ∧
    (∀ tc ∈ (presenting 0).cfg.tiles, tc.vramSize % 2 = 0) ∧ (presenting 0).cfg.tiles.length ≤ 8 ∧
    (presenting 0).cfg.road.yLast < 256 := ⟨presenting_sized 0, by decide, by decide, by decide⟩

theorem witness_SeqCollOnly : tileBoard.cfg.roadBoard = false ∧ start.sprbuf = [] ∧
    start.offroadDrawn = false ∧ start.cfg.road.yLast < 256 ∧
    (roadSteps 1 start.cfg).head? = some .roadParams := by decide

theorem witness_FrameIgnoresTheHost : ∃ t, exec (.seqFrame 1) start = .next t := ⟨_, rfl⟩

theorem witness_ScrollComposite : start.frameTop.wf ∧ start.frameBottom.wf ∧
    start.tiles.length = start.cfg.tiles.length ∧ (start.frame .bottom).covers 7 7 = true ∧
    start.cfg.tiles[0]? = some baselineTile ∧ baselineTile.mon = .bottom ∧
    (start.tiles[0]?).isSome = true ∧ shownAt start 0 baselineTile 7 7 = some (7, 7) ∧
    shownAt start 0 { baselineTile with orgX := 1 } 7 7 = some (6, 7) ∧
    shownAt start 0 { baselineTile with orgY := 1 } 7 0 = none ∧
    ((start.vis .bottom).x ≤ 7 ∧ 7 < (start.vis .bottom).x + (start.vis .bottom).w ∧
      (start.vis .bottom).y ≤ 7 ∧ 7 < (start.vis .bottom).y + (start.vis .bottom).h) := by decide

theorem witness_Nvram : start.nvram.wf ∧ (15#16).toNat < start.cfg.nvramSize ∧
    start.cfg.nvramSize ≤ (16#16).toNat ∧
    (List.replicate 16 (0x99 : Byte)).length = start.cfg.nvramSize := by decide

theorem witness_BusOutOfRange : 10 ≤ (unitOf 0xA0000000).toNat := by decide

theorem witness_StepKeepsCanonicalForm : (presenting 0x88000042).canonical ∧
    ∃ t, step (presenting 0x88000042) = .next t :=
  ⟨fresh_canonical board .zero, _, rfl⟩

theorem witness_StepKeepsTheBoardAndSizes : (presenting 0x09060102).sized ∧
    (presenting 0x09060102).tablesSized ∧ ∃ t, step (presenting 0x09060102) = .next t :=
  ⟨presenting_sized _, by decide, _, rfl⟩

theorem witness_ReadsChangeNoState : wOf 0x90000100 = 0 := by decide

theorem witness_BusTransactionsChangeNoPixel : unitOf 0x48000011 ≠ 0 ∧
    ∃ t, exec (decode 0x48000011) start = .next t := ⟨by decide, _, rfl⟩

theorem witness_WhoWritesWhat :
    (∃ t, exec (.protWr13 1) start = .next t ∧ t.modeSelector ≠ start.modeSelector) ∧
    (∃ t, exec .roadCollClr { start with collision := 5 } = .next t ∧ 5#4 ||| t.collision ≠ t.collision) ∧
    (∃ t, exec (.ppiWrA 0 1) start = .next t ∧ t.ppi ≠ start.ppi) ∧
    ∃ t, exec (.nvWr 0 1) start = .next t ∧ t.nvram ≠ start.nvram :=
  ⟨⟨_, rfl, by decide⟩, ⟨_, rfl, by decide⟩, ⟨_, rfl, by decide⟩, _, rfl, by decide⟩

end Sys2Proof.Tests
end

section
/-!
PROOFS. SEQ.RESET and the configuration check (R346): what it means for each row's check to fail, and that
the check as a whole holds exactly the rows of R346's table.
-/

namespace Sys2Proof.Proofs

open Sys2Proof Sys2Proof.Machine

/-! ### Tile layers -/

theorem ctTotal_eq_ctEntries (c : Config) (g : Nat) : ctTotal c g = ctEntries c g := by
  unfold ctTotal ctEntries
  cases c.cts[g]? <;> rfl

/-- The check of a table's pixels fails at some pixel of the table. -/
theorem romAll_pixels_eq_false (r : Rom Nat) (n : Nat) :
    romAll r (· < n) = false ↔ ∃ i < r.size, n ≤ romPixel r i := by
  have hpix : romAll r (· < n) = true ↔ ∀ i < r.size, romPixel r i < n := by
    rw [romAll_iff]
    refine forall₂_congr fun i hi => ?_
    rw [romPixel, romAt, if_pos hi, decide_eq_true_iff]
  rw [← Bool.not_eq_true, hpix]
  push Not
  rfl

theorem vramSizeOk_eq_false (tc : TileCfg) : vramSizeOk tc = false ↔
    tc.vramSize % 2 = 1 ∨ (tc.pos = none ∧ tc.vramSize ≠ 2 * tc.cols * tc.rows) := by
  simp [vramSizeOk, imp_iff_not_or]

theorem cellsDisjoint_eq_false (a b : Nat × Nat) : cellsDisjoint a b = false ↔
    a.1 < b.1 + 8 ∧ b.1 < a.1 + 8 ∧ a.2 < b.2 + 8 ∧ b.2 < a.2 + 8 := by
  simp only [cellsDisjoint, Bool.or_eq_false_iff, decide_eq_false_iff_not, Nat.not_le]
  tauto

/-- A list has `n` first entries that all satisfy `p`, said by position. -/
theorem take_forall_iff {α : Type} (p : α → Prop) (l : List α) (n : Nat) :
    (n ≤ l.length ∧ ∀ x ∈ l.take n, p x) ↔ ∀ t < n, ∃ x, l[t]? = some x ∧ p x := by
  constructor
  · rintro ⟨hlen, hall⟩ t ht
    have hl : t < l.length := by omega
    exact ⟨l[t], List.getElem?_eq_getElem hl,
      hall _ (List.mem_take_iff_getElem.2 ⟨t, by omega, rfl⟩)⟩
  · intro h
    have hlen : n ≤ l.length := by
      by_contra hlt
      obtain ⟨x, hx, _⟩ := h l.length (by omega)
      simp at hx
    refine ⟨hlen, fun x hx => ?_⟩
    obtain ⟨t, ht, rfl⟩ := List.mem_take_iff_getElem.1 hx
    obtain ⟨y, hy, hp⟩ := h t (by omega)
    obtain ⟨_, rfl⟩ := List.getElem?_eq_some_iff.1 hy
    exact hp

/-- A relation between the first `n` entries of a list, said by their positions. -/
theorem take_pairwise_iff {α : Type} (R : α → α → Prop) (l : List α) (n : Nat) :
    (l.take n).Pairwise R ↔
      ∀ t u a b, t < u → u < n → l[t]? = some a → l[u]? = some b → R a b := by
  rw [List.pairwise_iff_getElem]
  constructor
  · intro h t u a b htu hun ha hb
    obtain ⟨_, rfl⟩ := List.getElem?_eq_some_iff.1 ha
    obtain ⟨_, rfl⟩ := List.getElem?_eq_some_iff.1 hb
    have := h t u (by rw [List.length_take]; omega) (by rw [List.length_take]; omega) htu
    rwa [List.getElem_take, List.getElem_take] at this
  · intro h t u ht hu htu
    rw [List.length_take] at ht hu
    rw [List.getElem_take, List.getElem_take]
    exact h t u _ _ htu (by omega) (List.getElem?_eq_getElem _) (List.getElem?_eq_getElem _)

/-- A placement table fails by a pair that is not placed inside the bitmap, or by two pairs whose cells
overlap. -/
theorem tilePosOk_eq_false (tc : TileCfg) : tilePosOk tc = false ↔
    ∃ table, tc.pos = some table ∧
      ((∃ t < tc.vramSize / 2, ∀ xy, table[t]? = some xy →
          8 * tc.cols < xy.1 + 8 ∨ 8 * tc.rows < xy.2 + 8) ∨
        ∃ t u a b, t < u ∧ u < tc.vramSize / 2 ∧ table[t]? = some a ∧ table[u]? = some b ∧
          a.1 < b.1 + 8 ∧ b.1 < a.1 + 8 ∧ a.2 < b.2 + 8 ∧ b.2 < a.2 + 8) := by
  unfold tilePosOk
  cases tc.pos with
  | none => simp
  | some table =>
    simp only [← Bool.not_eq_true, Bool.and_eq_true, decide_eq_true_eq, List.all_eq_true,
      take_forall_iff, take_pairwise_iff, not_and_or, Option.some.injEq, exists_eq_left']
    refine or_congr ?_ ?_
    · push Not
      refine exists_congr fun t => and_congr_right fun _ => forall₂_congr fun xy _ => ?_
      omega
    · push Not
      simp only [ne_eq, Bool.not_eq_true, cellsDisjoint_eq_false]

theorem tileGfxOk_eq_false (tc : TileCfg) : tileGfxOk tc = false ↔
    tc.gfx.size < 64 * (256 + 256 * tc.codeMask.toNat)
      ∨ ∃ i < tc.gfx.size, tc.pixvals ≤ romPixel tc.gfx i := by
  rw [tileGfxOk, Bool.and_eq_false_iff, romAll_pixels_eq_false, decide_eq_false_iff_not, Nat.not_le]

theorem tileColorTableOk_eq_false (c : Config) (tc : TileCfg) : tileColorTableOk c tc = false ↔
    ctEntries c tc.ctLayer < (tc.colorMask.toNat + tc.bankStride) * tc.pixvals + tc.pixvals := by
  rw [tileColorTableOk, ctTotal_eq_ctEntries, decide_eq_false_iff_not, Nat.not_le]

/-! ### Sprite layers -/

theorem sprGfxOk_eq_false (sc : SpriteCfg) : sprGfxOk sc = false ↔ sprGfxFails sc := by
  rw [sprGfxOk, sprGfxFails, Bool.or_eq_false_iff, Bool.and_eq_false_iff, romAll_pixels_eq_false,
    decide_eq_false_iff_not, decide_eq_false_iff_not, Nat.not_le]

theorem sprColorTableOk_eq_false (c : Config) (sc : SpriteCfg) :
    sprColorTableOk c sc = false ↔ sprColorTableFails c sc := by
  rw [sprColorTableOk, sprColorTableFails, ctTotal_eq_ctEntries, Bool.or_eq_false_iff,
    decide_eq_false_iff_not, decide_eq_false_iff_not, Nat.not_le]

/-! ### Palette -/

/-- A nibble whose layout the board leaves free lies in `COLORPROM` where that has a byte. -/
theorem freeNibble_places_inside (c : PaletteCfg) (a : Nat × Channel) :
    (∀ place ∈ nibblePlaces (freeNibble c a), place / 8 < c.colorProm.size) ↔
      0 < c.colorProm.size := by
  constructor
  · intro h
    exact Nat.zero_lt_of_lt (h (freeNibble c a).b0 List.mem_cons_self)
  · intro h place hp
    have inside (i : Nat) : indexWithin (8 * c.colorProm.size) i / 8 < c.colorProm.size := by
      have := indexWithin_lt (show 0 < 8 * c.colorProm.size by omega) i
      omega
    simp only [nibblePlaces, freeNibble, List.mem_cons, List.not_mem_nil, or_false] at hp
    obtain rfl | rfl | rfl | rfl := hp <;> exact inside _

theorem nibbleInside_iff (c : PaletteCfg) (a : Nat × Channel) : nibbleInside c a = true ↔
    ∀ place ∈ nibblePlaces (openAt c.nibble (freeNibble c) a), place / 8 < c.colorProm.size := by
  unfold nibbleInside openAt
  cases givenAt c.nibble a with
  | none => simpa using (freeNibble_places_inside c a).symm
  | some n =>
    simp only [Option.getD_some, List.all_eq_true, decide_eq_true_eq]
    refine forall₂_congr fun place _ => ?_
    omega

theorem colorPromOk_eq_false (c : PaletteCfg) : colorPromOk c = false ↔
    ∃ e < c.entries, ∃ ch : Channel,
      ∃ place ∈ nibblePlaces (openAt c.nibble (freeNibble c) (e, ch)),
        c.colorProm.size ≤ place / 8 := by
  have hok : colorPromOk c = true ↔
      ∀ e < c.entries, ∀ ch : Channel, nibbleInside c (e, ch) = true := by
    simp only [colorPromOk, List.all_eq_true, List.mem_range]
    refine forall₂_congr fun e _ => ⟨fun h ch => h ch (by cases ch <;> simp), fun h ch _ => h ch⟩
  rw [← Bool.not_eq_true, hok]
  simp only [nibbleInside_iff]
  push Not
  rfl

theorem ctRangeOk_eq_false (c : Config) (ct : ColorTableCfg) : ctRangeOk c ct = false ↔
    ∃ v < ct.total, v % (ct.period : Nat) ∉ ct.residues ∧
      (ct.total ≤ v ^^^ ct.xorMask ∨ c.pal.entries ≤ ct.base + (v ^^^ ct.xorMask)) := by
  simp only [ctRangeOk, isTransparentValue, List.all_eq_false, List.mem_range, Bool.not_eq_true,
    Bool.or_eq_false_iff, Bool.and_eq_false_iff, List.contains_eq_mem, decide_eq_false_iff_not,
    Nat.not_lt]

theorem mem_channelValues (c : PaletteCfg) (v : Byte) :
    v ∈ channelValues c ↔ ∃ n : Nibble, v = weight c n := by
  simp only [channelValues, List.mem_map, List.mem_range]
  constructor
  · rintro ⟨n, _, rfl⟩
    exact ⟨_, rfl⟩
  · rintro ⟨n, rfl⟩
    exact ⟨n.toNat, n.isLt, by rw [BitVec.ofNat_toNat, BitVec.setWidth_eq]⟩

theorem transparentRgbOk_eq_false (c : PaletteCfg) : transparentRgbOk c = false ↔
    ∃ nr ng nb : Nibble, c.transparentRGB = ⟨weight c nr, weight c ng, weight c nb⟩ := by
  simp only [transparentRgbOk, Bool.not_eq_false', Bool.and_eq_true, List.contains_iff_mem,
    mem_channelValues]
  cases c.transparentRGB
  simp only [RGB.mk.injEq]
  constructor
  · rintro ⟨⟨⟨nr, hr⟩, ng, hg⟩, nb, hb⟩
    exact ⟨nr, ng, nb, hr, hg, hb⟩
  · rintro ⟨nr, ng, nb, hr, hg, hb⟩
    exact ⟨⟨⟨nr, hr⟩, ng, hg⟩, nb, hb⟩

/-! ### Road unit -/

theorem rangeInside_eq_false {α : Type} [DecidableEq α] [Infinite α] (f : OpenFn α Nat) (size : Nat)
    (free : α → Nat) : rangeInside f size = false ↔ overruns f size free := by
  rw [← Bool.not_eq_true, rangeInside_iff f size free]
  push Not
  rfl

theorem mem_windowColumns (c : RoadCfg) (px : Nat) :
    px ∈ windowColumns c ↔ c.xFirst ≤ px ∧ px ≤ c.xLast := by
  simp only [windowColumns, List.mem_map, List.mem_range]
  exact ⟨by omega, fun h => ⟨px - c.xFirst, by omega, by omega⟩⟩

theorem mem_visibleLines (c : RoadCfg) (y : Nat) :
    y ∈ visibleLines c ↔ c.yFirst ≤ y ∧ y ≤ c.yLast := by
  simp only [visibleLines, List.mem_map, List.mem_range]
  exact ⟨by omega, fun h => ⟨y - c.yFirst, by omega, by omega⟩⟩

theorem roadRom5Ok_eq_false (c : RoadCfg) : roadRom5Ok c = false ↔
    ∃ px, c.xFirst ≤ px ∧ px ≤ c.xLast ∧
      c.rom5.size ≤ openIndex c.area5Index c.rom5.size Config.freeArea5Index px := by
  simp only [roadRom5Ok, List.all_eq_false, mem_windowColumns,
    indexInside_iff _ _ Config.freeArea5Index, Nat.not_lt, and_assoc]

theorem paramRowsOk_iff (c : RoadCfg) (P : SpriteParam) : paramRowsOk c P = true ↔
    ∀ y, c.yFirst ≤ y → y ≤ c.yLast → P.miny ≤ y → y < P.maxy → rowFits c P y := by
  simp only [paramRowsOk, List.all_eq_true, mem_visibleLines, Bool.or_eq_true, Bool.not_eq_true',
    Bool.and_eq_false_iff, decide_eq_false_iff_not, rowFits_iff]
  refine forall_congr' fun y => ?_
  tauto

theorem spriteRowDataOk_eq_false (c : RoadCfg) : spriteRowDataOk c = false ↔
    overruns c.paramDecode c.paramImage.length Config.freeParamDecode ∨
      ∃ P ∈ c.paramImage, ∃ y, c.yFirst ≤ y ∧ y ≤ c.yLast ∧ P.miny ≤ y ∧ y < P.maxy ∧
        ¬rowFits c P y := by
  rw [spriteRowDataOk, Bool.and_eq_false_iff, rangeInside_eq_false _ _ Config.freeParamDecode]
  simp only [List.all_eq_false, paramRowsOk_iff]
  push Not
  rfl

theorem roadWindowOk_eq_false (c : Config) : roadWindowOk c = false ↔
    ¬(8 : Int) ∣ c.road.xLast - c.road.xFirst + 1 ∨ c.frameW ≤ c.road.xFirst ∨
      c.frameW ≤ c.road.xLast ∨ c.frameH ≤ c.road.yFirst ∨ c.frameH ≤ c.road.yLast := by
  simp only [roadWindowOk, Bool.and_eq_false_iff, decide_eq_false_iff_not, Nat.not_lt,
    Int.dvd_iff_emod_eq_zero, or_assoc]

theorem visOk_eq_false (c : Config) (r : Rect) : visOk c r = false ↔ leavesFrame c r := by
  simp only [visOk, leavesFrame, Bool.and_eq_false_iff, decide_eq_false_iff_not, Nat.not_le]

/-- A check of the road unit refuses road boards alone. -/
theorem roadOnly_eq_false (c : Config) (ok : Bool) :
    (!c.roadBoard || ok) = false ↔ c.roadBoard = true ∧ ok = false := by
  rw [Bool.or_eq_false_iff, Bool.not_eq_false']

theorem sweepWindow_eq_false (c : Config) :
    ((!c.roadBoard || roadWindowOk c) && visOk c c.visTop && visOk c c.visBottom) = false ↔
      tableFails c .sweepWindow := by
  rw [Bool.and_eq_false_iff, Bool.and_eq_false_iff, roadOnly_eq_false, roadWindowOk_eq_false,
    visOk_eq_false, visOk_eq_false, or_assoc]
  rfl

/-! ### Scroll rows and protection table -/

theorem scrollRowsOk_eq_false (c : Config) : scrollRowsOk c = false ↔ c.scrollRows ≠ 0 ∧
    (128 < c.scrollRows ∨ ∃ tc, c.tiles[c.scrollLayer]? = some tc ∧ c.scrollRows < tc.rows) := by
  rw [scrollRowsOk, Bool.or_eq_false_iff, Bool.and_eq_false_iff, decide_eq_false_iff_not,
    decide_eq_false_iff_not, Nat.not_le]
  cases c.tiles[c.scrollLayer]? <;> simp

theorem holdsMode_iff (e : ProtEntry) (mode : Option Byte) :
    ProtEntry.holdsMode e mode = true ↔ modeHolds e mode := by
  unfold ProtEntry.holdsMode modeHolds
  cases e.modes <;> simp

/-- Some program counter meets a read entry's ranges: the least of a range that is not empty. -/
theorem pcsSatisfiable_iff (pcs : Option (List (Nat × Nat))) : pcsSatisfiable pcs = true ↔
    ∃ pc, ∀ ranges, pcs = some ranges → ∃ r ∈ ranges, r.1 ≤ pc ∧ pc ≤ r.2 := by
  cases pcs with
  | none => simp [pcsSatisfiable]
  | some ranges =>
    simp only [pcsSatisfiable, List.any_eq_true, decide_eq_true_eq, Option.some.injEq,
      forall_eq']
    constructor
    · rintro ⟨r, hr, hle⟩
      exact ⟨r.1, r, hr, le_rfl, hle⟩
    · rintro ⟨pc, r, hr, hlo, hhi⟩
      exact ⟨r, hr, hlo.trans hhi⟩

/-- An entry of offset `o` that can match at mode −1 is one that applies there to a write, or to a read
by some program. -/
theorem matchesUnset_iff (e : ProtEntry) (o : BitVec 4) : (e.o = o ∧ matchesUnset e = true) ↔
    appliesToWrite e o none ∨ ∃ pc, appliesToRead e o none pc := by
  simp only [matchesUnset, appliesToWrite, appliesToRead, Bool.and_eq_true, holdsMode_iff]
  cases e.dir with
  | write => simp
  | read pcs =>
    simp only [reduceCtorEq, false_and, false_or, ProtDir.read.injEq, exists_eq_left',
      pcsSatisfiable_iff, exists_and_right]
    tauto

theorem protEntryOk_eq_false (c : Config) (e : ProtEntry) : protEntryOk c e = false ↔
    e.o = 13 ∨ appliesToWrite e 5 none ∨ (∃ pc, appliesToRead e 5 none pc) ∨
      ∃ a, e.action = .passThrough a ∧ c.mainMemSize ≤ a := by
  rw [← or_assoc (a := appliesToWrite e 5 none), ← matchesUnset_iff]
  unfold protEntryOk
  cases e.action <;> simp [or_assoc, imp_iff_not_or]

/-! ### The whole check -/

theorem mem_tileChecks_iff (c : Config) (x : TableName × Bool) :
    x ∈ c.tiles.zipIdx.flatMap (tileChecks c) ↔
      ∃ L tc, c.tiles[L]? = some tc ∧ x ∈ tileChecks c (tc, L) := by
  simp only [List.mem_flatMap, Prod.exists, List.mk_mem_zipIdx_iff_getElem?]
  exact exists_comm

theorem mem_ctChecks_iff (c : Config) (x : TableName × Bool) :
    (x ∈ c.cts.zipIdx.map fun g => (TableName.ctRange g.2, ctRangeOk c g.1)) ↔
      ∃ g ct, c.cts[g]? = some ct ∧ x = (.ctRange g, ctRangeOk c ct) := by
  simp only [List.mem_map, Prod.exists, List.mk_mem_zipIdx_iff_getElem?, eq_comm (a := x)]
  exact exists_comm

/-- The checks of R346, group by group. -/
theorem mem_configChecks_iff (c : Config) (x : TableName × Bool) : x ∈ configChecks c ↔
    x = (.nchip, decide (c.nchip ≤ 4)) ∨
    (∃ L tc, c.tiles[L]? = some tc ∧ x ∈ tileChecks c (tc, L)) ∨ x ∈ spriteChecks c ∨
    x = (.colorProm, colorPromOk c.pal) ∨
    (∃ g ct, c.cts[g]? = some ct ∧ x = (.ctRange g, ctRangeOk c ct)) ∨
    x = (.transparentRgb, transparentRgbOk c.pal) ∨ x ∈ roadChecks c ∨
    x = (.scrollRows, scrollRowsOk c) ∨ x = (.roadSprSize, decide (c.road.sprSize ≤ 4096)) ∨
    x = (.protTable, c.prot.all (protEntryOk c)) := by
  simp only [configChecks, paletteChecks, List.mem_append, List.mem_cons, List.not_mem_nil, or_false,
    mem_tileChecks_iff, mem_ctChecks_iff, or_assoc]

/-- R346's table and the check agree row by row: a board does not meet a row exactly when the check
holds an entry of that name that fails. -/
theorem mem_configChecks_false_iff (c : Config) (name : TableName) :
    (name, false) ∈ configChecks c ↔ tableFails c name := by
  simp only [mem_configChecks_iff, tileChecks, spriteChecks, roadChecks, List.mem_cons,
    List.not_mem_nil, or_false, Prod.mk.injEq, @eq_comm Bool false, roadOnly_eq_false]
  cases name with
  | nchip => simp [tableFails]
  | vramSize L => simp [tableFails, vramSizeOk_eq_false]
  | tilePos L => simp [tableFails, tilePosOk_eq_false]
  | tileGfx L => simp [tableFails, tileGfxOk_eq_false]
  | tileColorTable L => simp [tableFails, tileColorTableOk_eq_false]
  | sprGfx S => simp [tableFails, sprGfxOk_eq_false]
  | sprColorTable S => simp [tableFails, sprColorTableOk_eq_false]
  | colorProm => simp [tableFails, colorPromOk_eq_false]
  | ctRange g => simp [tableFails, ctRangeOk_eq_false]
  | transparentRgb => simp [tableFails, transparentRgbOk_eq_false]
  | roadRom1 => simp [tableFails]
  | roadRom2 => simp [tableFails]
  | roadRom3 => simp [tableFails]
  | roadRom4 => simp [tableFails]
  | roadRom5 => simp [tableFails, roadRom5Ok_eq_false]
  | roadEn => simp [tableFails]
  | sprPri => simp [tableFails, rangeInside_eq_false _ _ Config.freeSprPriIndex]
  | overall => simp [tableFails, rangeInside_eq_false _ _ Config.freeOverallIndex]
  | bgPal => simp [tableFails, rangeInside_eq_false _ _ Config.freeBgIndex]
  | roadPal => simp [tableFails, rangeInside_eq_false _ _ Config.freeRoadPalIndex]
  | channelCombine => simp [tableFails, rangeInside_eq_false _ _ Config.freeChannelCombine]
  | spriteRowData => simp [tableFails, spriteRowDataOk_eq_false]
  | sweepWindow => simpa using sweepWindow_eq_false c
  | scrollRows => simp [tableFails, scrollRowsOk_eq_false]
  | roadSprSize => simp [tableFails]
  | protTable => simp [tableFails, protEntryOk_eq_false]

/-- The check names only rows the board does not meet. -/
theorem tableFails_of_checkConfiguration {c : Config} {name : TableName}
    (h : checkConfiguration c = some name) : tableFails c name := by
  obtain ⟨⟨n, ok⟩, hfind, rfl⟩ := Option.map_eq_some_iff.1 h
  obtain rfl : ok = false := by simpa using List.find?_some hfind
  exact (mem_configChecks_false_iff c n).1 (List.mem_of_find?_eq_some hfind)

/-- The check passes exactly where every row is met. -/
theorem checkConfiguration_eq_none_iff (c : Config) :
    checkConfiguration c = none ↔ ∀ name, ¬tableFails c name := by
  rw [checkConfiguration, Option.map_eq_none_iff, List.find?_eq_none]
  constructor
  · intro h name hname
    simpa using h _ ((mem_configChecks_false_iff c name).2 hname)
  · rintro h ⟨name, ok⟩ hmem
    cases ok with
    | true => simp
    | false => exact absurd ((mem_configChecks_false_iff c name).1 hmem) (h name)

/-- What SEQ.RESET answers, by the outcome of the check (R321). -/
theorem exec_seqReset_of_some {s : State} {name : TableName}
    (h : checkConfiguration s.cfg = some name) :
    exec .seqReset s = .fault (.malformedROMData name) := by
  show execSeqReset s = _
  rw [execSeqReset, h]

theorem exec_seqReset_of_none {s : State} (h : checkConfiguration s.cfg = none) :
    exec .seqReset s = .next (resetState s) := by
  show execSeqReset s = _
  rw [execSeqReset, h]

/-- Settles O45: the check's entries are the rows of R346's table, so the entry it names is a row that is
not met, and it names none exactly where every row is met. -/
theorem resetRefusesMalformedBoards : Obligations.ResetRefusesMalformedBoards := by
  intro s
  constructor
  · rintro ⟨failing, hfails⟩
    cases hcheck : checkConfiguration s.cfg with
    | none => exact absurd hfails ((checkConfiguration_eq_none_iff s.cfg).1 hcheck failing)
    | some name => exact ⟨name, tableFails_of_checkConfiguration hcheck, exec_seqReset_of_some hcheck⟩
  · intro hmet
    exact ⟨_, exec_seqReset_of_none ((checkConfiguration_eq_none_iff s.cfg).2 hmet)⟩

end Sys2Proof.Proofs
end

section
/-!
PROOFS. What an operation that answers a next state can have done, said once as the relation `Effect`, and
the claims of `10_state.md` that follow from it: who writes what, the direction masks, the board and the
sizes.  An ordinary operation keeps what `Keeps` lists; the others are SEQ.RESET, the mode latch, the clear
of the accumulator, and the writers of the PPI bank and of the NVRAM.
-/

namespace Sys2Proof.Proofs

open Sys2Proof Sys2Proof.Machine

/-! ### Sizes as data (R33 to R37, R48) -/

/-- Width and height of a bitmap. -/
def pixmapDims (p : Pixmap) : Nat × Nat := (p.width, p.height)

/-- The length of a tile layer's dirty map and the size of its bitmap. -/
def tileDims (tl : TileLayer) : Nat × Nat × Nat := (tl.dirty.length, pixmapDims tl.bitmap)

/-- The length of a sprite layer's dirty map and the size of its bitmap. -/
def spriteDims (sl : SpriteLayer) : Nat × Nat × Nat := (sl.dirty.length, pixmapDims sl.bitmap)

/-- The sizes of every dirty map and bitmap, which no operation but SEQ.RESET writes anew. -/
structure Shape where
  tiles : List (Nat × Nat × Nat)
  spr0 : Nat × Nat × Nat
  spr1 : Nat × Nat × Nat
  frameTop : Nat × Nat
  frameBottom : Nat × Nat

/-- The sizes a state has. -/
def stateShape (s : State) : Shape where
  tiles := s.tiles.map tileDims
  spr0 := spriteDims s.spr0
  spr1 := spriteDims s.spr1
  frameTop := pixmapDims s.frameTop
  frameBottom := pixmapDims s.frameBottom

/-- The sizes the board gives. -/
def boardShape (c : Config) : Shape where
  tiles := c.tiles.map fun tc => (tc.vramSize, 8 * tc.cols, 8 * tc.rows)
  spr0 := (spriteRamSize c.spr0, 16 * c.spr0.cellW, c.spr0.rows * c.spr0.cellH)
  spr1 := (spriteRamSize c.spr1, 16 * c.spr1.cellW, c.spr1.rows * c.spr1.cellH)
  frameTop := (c.frameW, c.frameH)
  frameBottom := (c.frameW, c.frameH)

/-- No scanline is under way (R44). -/
def Idle (s : State) : Prop := s.sprbuf = [] ∧ s.offroadDrawn = false

theorem sized_iff (s : State) :
    s.sized ↔ s.ppi.length = s.cfg.nchip ∧ stateShape s = boardShape s.cfg ∧ Idle s := by
  have htiles : List.Forall₂ TileLayer.sizedBy s.tiles s.cfg.tiles ↔
      s.tiles.map tileDims = s.cfg.tiles.map fun tc => (tc.vramSize, 8 * tc.cols, 8 * tc.rows) := by
    rw [← List.forall₂_eq_eq_eq, List.forall₂_map_left_iff, List.forall₂_map_right_iff]
    simp only [tileDims, pixmapDims, Prod.mk.injEq]
  simp only [State.sized, htiles, stateShape, boardShape, spriteDims, pixmapDims, Shape.mk.injEq,
    Prod.mk.injEq, Idle, and_assoc]

/-! ### What keeps the sizes -/

/-- Replacing an entry by one of the same size keeps the list of sizes. -/
theorem map_set_same {α β : Type} {f : α → β} {l : List α} {n : Nat} {a b : α}
    (ha : l[n]? = some a) (hf : f b = f a) : (l.set n b).map f = l.map f := by
  obtain ⟨hn, rfl⟩ := List.getElem?_eq_some_iff.1 ha
  rw [List.map_set, hf, ← List.getElem_map f (h := by simpa using hn), List.set_getElem_self]

theorem setTile_shape {s : State} {L : Nat} {tl new : TileLayer} (htl : s.tiles[L]? = some tl)
    (hd : tileDims new = tileDims tl) : stateShape (s.setTile L new) = stateShape s := by
  simp only [stateShape, State.setTile, map_set_same htl hd]

theorem setSprite_shape {s : State} {S : SpriteId} {new : SpriteLayer}
    (hd : spriteDims new = spriteDims (s.sprite S)) :
    stateShape (s.setSprite S new) = stateShape s := by
  cases S <;> simpa [stateShape, State.setSprite, State.sprite] using hd

theorem setFrame_shape {s : State} {m : Monitor} {p : Pixmap}
    (hd : pixmapDims p = pixmapDims (s.frame m)) : stateShape (s.setFrame m p) = stateShape s := by
  cases m <;> simpa [stateShape, State.setFrame, State.frame] using hd

@[simp] theorem pixmapDims_set (p : Pixmap) (x y v : Nat) :
    pixmapDims (p.set x y v) = pixmapDims p := by
  simp [pixmapDims]

/-- Painting keeps the size of the bitmap. -/
@[simp] theorem pixmapDims_paint {δ : Type} (f : δ → Nat × Nat) (w : δ → Option Nat) (l : List δ)
    (p : Pixmap) : pixmapDims (l.foldl (paint f w) p) = pixmapDims p :=
  paint_keeps (P := fun q => pixmapDims q = pixmapDims p)
    (fun q x y v hq => (pixmapDims_set q x y v).trans hq) f w l p rfl

@[simp] theorem pixmapDims_drawCell (w h : Nat) (pixel : Nat → Nat → Nat) (flip : Bool) (x0 y0 : Nat)
    (p : Pixmap) : pixmapDims (drawCell w h pixel flip x0 y0 p) = pixmapDims p := by
  rw [drawCell_eq_paint, pixmapDims_paint]

theorem renderLayer_dims (s : State) (tc : TileCfg) (tl : TileLayer) :
    tileDims (renderLayer s tc tl) = tileDims tl := by
  refine renderLayer_keeps (P := fun u => tileDims u = tileDims tl) s tc tl (fun u k hu => ?_) rfl
  obtain h | h := renderPair_cases s tc u k <;> rw [h]
  · exact hu
  · simpa [tileDims, drawTile] using hu

theorem refreshLayer_dims (s : State) (sc : SpriteCfg) (sl : SpriteLayer) :
    spriteDims (refreshLayer s sc sl) = spriteDims sl := by
  refine refreshLayer_keeps (P := fun u => spriteDims u = spriteDims sl) s sc sl
    (fun u k hu => ?_) rfl
  obtain h | h := refreshCell_cases s sc u k <;> rw [h]
  · exact hu
  · simpa [spriteDims] using hu

@[simp] theorem markEverything_shape (s : State) :
    stateShape (markEverything s) = stateShape s := by
  simp [stateShape, markEverything, tileDims, spriteDims, Function.comp_def]

@[simp] theorem markMonitor_shape (s : State) (m : Monitor) :
    stateShape (markMonitor s m) = stateShape s := by
  have htiles : (markMonitor s m).tiles.map tileDims = s.tiles.map tileDims := by
    refine List.ext_getElem? fun L => ?_
    rw [List.getElem?_map, List.getElem?_map, markMonitor_tile, Option.map_map]
    congr 1
    funext tl
    simp only [Function.comp_apply]
    split
    · split <;> simp [tileDims]
    · rfl
  have hmark (sl : SpriteLayer) : spriteDims { sl with dirty := markAll sl.dirty } = spriteDims sl := by
    simp [spriteDims]
  simp only [stateShape, htiles]
  simp only [markMonitor, apply_ite spriteDims, hmark, ite_self]

@[simp] theorem tileRender_shape (L : Nat) (s : State) :
    stateShape (tileRender L s) = stateShape s := by
  unfold tileRender
  split
  · next tc tl h => exact setTile_shape ((tile?_eq_some s).1 h).2 (renderLayer_dims s tc tl)
  · rfl

/-- A loop keeps the sizes if its body does. -/
theorem foldl_shape {δ : Type} {f : State → δ → State} (l : List δ) (s : State)
    (hf : ∀ t d, stateShape (f t d) = stateShape t) : stateShape (l.foldl f s) = stateShape s :=
  foldl_keeps (P := fun t => stateShape t = stateShape s) l s (fun t d _ h => (hf t d).trans h) rfl

@[simp] theorem renderAllTiles_shape (s : State) : stateShape (renderAllTiles s) = stateShape s :=
  foldl_shape _ s fun t L => tileRender_shape L t

@[simp] theorem spriteRefresh_shape (S : SpriteId) (s : State) :
    stateShape (spriteRefresh S s) = stateShape s :=
  setSprite_shape (refreshLayer_dims s _ _)

theorem scrollLayer_shape (s : State) (L : Nat) : stateShape (scrollLayer s L) = stateShape s := by
  unfold scrollLayer
  split
  · exact setFrame_shape (by rw [scrollPixel_eq_paint, pixmapDims_paint])
  · rfl

@[simp] theorem scrollComp_shape (s : State) : stateShape (scrollComp s) = stateShape s :=
  foldl_shape _ s scrollLayer_shape

@[simp] theorem blit_shape (m : Monitor) (tr : BsTransform) (s : State) :
    stateShape (blit m tr s) = stateShape s :=
  setFrame_shape (by rw [blitPixel_eq_paint, pixmapDims_paint])

@[simp] theorem composite0_shape (s : State) : stateShape (composite0 s) = stateShape s := by
  simp only [composite0, apply_ite stateShape, blit_shape, ite_self]

@[simp] theorem composite1_shape (s : State) : stateShape (composite1 s) = stateShape s :=
  setFrame_shape (by rw [placePixel_eq_paint, pixmapDims_paint])

theorem beforeRoad_shape (fullRefresh : Bool) (s : State) :
    stateShape (beforeRoad fullRefresh s) = stateShape s := by
  simp only [beforeRoad, composite1_shape, composite0_shape, scrollComp_shape, spriteRefresh_shape,
    renderAllTiles_shape, apply_ite stateShape, markEverything_shape, ite_self]

/-! ### The sweep of a scanline (R261) -/

theorem roadPixelStep_shape (minimal : Bool) (y va x : Nat) (s : State) (i : Nat) :
    stateShape (roadPixelStep minimal y va x s i) = stateShape s := by
  have htrigger (acciar : Bool) : stateShape (offRoadTrigger s y acciar) = stateShape s := by
    obtain ⟨_, _, h⟩ | ⟨_, h⟩ := offRoadTrigger_cases s y acciar <;> rw [h]
    rfl
  unfold roadPixelStep
  cases minimal
  · exact (setFrame_shape (pixmapDims_set _ _ _ _)).trans (htrigger _)
  · exact htrigger _

theorem roadChunk_shape (minimal : Bool) (y va : Nat) (s : State) (x : Nat) :
    stateShape (roadChunk minimal y va s x) = stateShape s :=
  foldl_shape _ s (roadPixelStep_shape minimal y va x)

theorem roadLine_shape (minimal : Bool) (y : Nat) (s : State) :
    stateShape (roadLine minimal y s) = stateShape s := by
  unfold roadLine
  split_ifs
  · rfl
  · rfl
  · exact foldl_shape _ (beginScanline s y) (roadChunk_shape minimal y _)

theorem roadLine_gains (minimal : Bool) (y : Nat) (s : State) :
    BitsWithin s.collision (roadLine minimal y s).collision := by
  unfold roadLine
  split_ifs
  · exact BitsWithin.refl _
  · exact BitsWithin.refl _
  · exact foldl_keeps (P := fun t : State => BitsWithin s.collision t.collision) _ (beginScanline s y)
      (fun t x _ h => h.trans (roadChunk_gains minimal y _ t x)) (BitsWithin.refl _)

theorem roadLine_idle (minimal : Bool) (y : Nat) {s : State} (h : Idle s) :
    Idle (roadLine minimal y s) := by
  unfold roadLine
  split_ifs
  · exact h
  · exact h
  · exact ⟨rfl, rfl⟩

/-! ### What an ordinary operation keeps -/

/-- What every operation keeps but SEQ.RESET, the clear of the accumulator and the writers of the mode
latch, the PPI bank and the NVRAM; the accumulator may gain bits. -/
structure Keeps (s t : State) : Prop where
  cfg : t.cfg = s.cfg
  ppi : t.ppi = s.ppi
  modeSelector : t.modeSelector = s.modeSelector
  nvram : t.nvram = s.nvram
  gains : BitsWithin s.collision t.collision
  shape : stateShape t = stateShape s
  idle : Idle s → Idle t
  tables : s.tablesSized → t.tablesSized

theorem Keeps.refl (s : State) : Keeps s s :=
  ⟨rfl, rfl, rfl, rfl, BitsWithin.refl _, rfl, id, id⟩

theorem Keeps.trans {s t u : State} (h : Keeps s t) (h' : Keeps t u) : Keeps s u where
  cfg := h'.cfg.trans h.cfg
  ppi := h'.ppi.trans h.ppi
  modeSelector := h'.modeSelector.trans h.modeSelector
  nvram := h'.nvram.trans h.nvram
  gains := h.gains.trans h'.gains
  shape := h'.shape.trans h.shape
  idle := h'.idle ∘ h.idle
  tables := h'.tables ∘ h.tables

/-- Only scratch registers, latches, lines, control registers, byte memories outside the layers, and the
model's own fields differ between `s` and `t`: nothing `Keeps` speaks of. -/
def RegistersOnly (s t : State) : Prop :=
  t = { s with
    registers := t.registers
    soundlatch := t.soundlatch
    soundlatch2 := t.soundlatch2
    speechReset := t.speechReset
    speechStart := t.speechStart
    speechVcu := t.speechVcu
    sndCpuReset := t.sndCpuReset
    scroll := t.scroll
    bsctrl := t.bsctrl
    bs2ctrl := t.bs2ctrl
    palbank := t.palbank
    opa := t.opa
    opb := t.opb
    roadctl := t.roadctl
    ipa := t.ipa
    ipb := t.ipb
    ipc := t.ipc
    roadspr := t.roadspr
    pending := t.pending
    inputs := t.inputs
    trace := t.trace
    clock := t.clock }

theorem RegistersOnly.keeps {s t : State} (h : RegistersOnly s t) : Keeps s t := by
  rw [h]
  exact ⟨rfl, rfl, rfl, rfl, BitsWithin.refl _, rfl, id, id⟩

theorem Keeps.after_registers {s t u : State} (h' : Keeps t u) (h : RegistersOnly s t) : Keeps s u :=
  h.keeps.trans h'

theorem keeps_of_videoFrame {s t : State} (h : VideoFrame s t) (hs : stateShape t = stateShape s) :
    Keeps s t := by
  rw [VideoFrame] at h
  refine ⟨?_, ?_, ?_, ?_, ?_, hs, ?_, ?_⟩ <;> rw [h]
  exacts [BitsWithin.refl _, id, id]

theorem keeps_of_sweepFrame {s t : State} (h : SweepFrame s t)
    (hg : BitsWithin s.collision t.collision) (hs : stateShape t = stateShape s)
    (hi : Idle s → Idle t) : Keeps s t := by
  rw [SweepFrame] at h
  refine ⟨?_, ?_, ?_, ?_, hg, hs, hi, ?_⟩ <;> rw [h]
  exact id

theorem roadLine_keeps (minimal : Bool) (y : Nat) (s : State) : Keeps s (roadLine minimal y s) :=
  keeps_of_sweepFrame (roadLine_frame minimal y s) (roadLine_gains minimal y s)
    (roadLine_shape minimal y s) (roadLine_idle minimal y)

theorem roadParams_keeps (s : State) : Keeps s (roadParams s) := by
  unfold roadParams
  split_ifs
  · exact ⟨rfl, rfl, rfl, rfl, BitsWithin.refl _, rfl, id, fun ⟨_, htables⟩ => ⟨by simp, htables⟩⟩
  · exact Keeps.refl s

theorem roadPass_keeps (minimal : Bool) (s : State) : Keeps s (roadPass minimal s) := by
  unfold roadPass
  split_ifs
  · exact foldl_keeps (P := Keeps s) _ _ (fun t y _ h => h.trans (roadLine_keeps minimal y t))
      (roadParams_keeps s)
  · exact Keeps.refl s

theorem emit_keeps (s : State) (e : Event) : Keeps s (s.emit e) := RegistersOnly.keeps rfl

theorem ret_keeps (s : State) (v : Byte) : Keeps s (s.ret v) := RegistersOnly.keeps rfl

theorem renderFrame_keeps (fullRefresh : Bool) (s : State) : Keeps s (renderFrame fullRefresh s) := by
  rw [renderFrame_eq]
  exact ((keeps_of_videoFrame (beforeRoad_video fullRefresh s) (beforeRoad_shape fullRefresh s)).trans
    (roadPass_keeps false _)).trans (emit_keeps _ _)

/-! ### Shared operations -/

/-- A capability the host is asked for appends its call, where it is present. -/
theorem keeps_of_asked {α : Type} {s : State} {r : α × State} {v w : α} {e : Event}
    (h : r = (v, s.emit e) ∨ r = (w, s)) : Keeps s r.2 := by
  obtain rfl | rfl := h
  exacts [emit_keeps s e, Keeps.refl s]

/-- A capability that hands something on appends its event, where it is present. -/
theorem keeps_of_told {s t : State} {e : Event} (h : t = s.emit e ∨ t = s) : Keeps s t := by
  obtain rfl | rfl := h
  exacts [emit_keeps s e, Keeps.refl t]

theorem extRead_keeps (s : State) (c : Nat) (p : Port) : Keeps s (extRead s c p).2 :=
  keeps_of_asked (extRead_cases s c p)

theorem mainMemRead_keeps (s : State) (a : Nat) : Keeps s (mainMemRead s a).2 :=
  keeps_of_asked (mainMemRead_cases s a)

theorem inputPort_keeps (s : State) (i : Nat) : Keeps s (inputPort s i).2 :=
  keeps_of_asked (inputPort_cases s i)

theorem speechBusy_keeps (s : State) : Keeps s (speechBusy s).2 :=
  keeps_of_asked (speechBusy_cases s)

theorem mainMemWrite_keeps (s : State) (a : Nat) (v : Byte) : Keeps s (mainMemWrite s a v) :=
  keeps_of_told (mainMemWrite_cases s a v)

theorem speechLine_keeps (s : State) (line : SpeechLine) (v : Byte) :
    Keeps s (speechLine s line v) :=
  keeps_of_told (speechLine_cases s line v)

theorem soundCpuReset_keeps (s : State) (b : BitVec 1) : Keeps s (soundCpuReset s b) :=
  keeps_of_told (soundCpuReset_cases s b)

/-! ### Outcomes that keep a property -/

/-- If the outcome is a next state, that state has the property. -/
def Yields (P : State → Prop) (r : Result) : Prop := ∀ t, r = .next t → P t

theorem Yields.next {P : State → Prop} {t : State} (h : P t) : Yields P (.next t) := by
  rintro u ⟨⟩
  exact h

theorem Yields.ite {P : State → Prop} {p : Prop} [Decidable p] {a b : Result} (ha : Yields P a)
    (hb : Yields P b) : Yields P (if p then a else b) := by
  split_ifs
  exacts [ha, hb]

theorem Yields.mono {P Q : State → Prop} {r : Result} (h : Yields P r) (hPQ : ∀ t, P t → Q t) :
    Yields Q r := fun t ht => hPQ t (h t ht)

/-- An out-of-range read, and every read that asks nobody, only appends to the trace. -/
theorem yields_ret (s : State) (v : Byte) : Yields (Keeps s) (.next (s.ret v)) :=
  .next (ret_keeps s v)

theorem yields_oorRead (s : State) : Yields (Keeps s) (oorRead s) := yields_ret s _

theorem yields_oorWrite (s : State) : Yields (Keeps s) (oorWrite s) := .next (Keeps.refl s)

/-- A write to scratch registers. -/
theorem yields_registers {s t : State} (h : RegistersOnly s t) : Yields (Keeps s) (.next t) :=
  .next h.keeps

/-! ### PPI reads (R144 to R147) -/

theorem readPort_keeps (c : BitVec 3) (p : Port) (s : State) :
    Yields (Keeps s) (readPort c p s) := by
  intro t h
  obtain ⟨_, rfl⟩ | ⟨ch, _, _, rfl⟩ | ⟨ch, _, _, rfl⟩ := readPort_next s h
  · exact ret_keeps s _
  · exact ret_keeps s _
  · exact (extRead_keeps s _ _).trans (ret_keeps _ _)

theorem ppiRdC_keeps (c : BitVec 3) (s : State) : Yields (Keeps s) (execPpiRdC c s) := by
  unfold execPpiRdC
  split
  · exact yields_oorRead s
  · exact .next ((extRead_keeps s _ _).trans (ret_keeps _ _))

theorem ppiRdCtrl_keeps (c : BitVec 3) (s : State) : Yields (Keeps s) (execPpiRdCtrl c s) := by
  unfold execPpiRdCtrl
  split
  · exact yields_oorRead s
  · exact yields_ret s _

/-! ### Protection and sound (R170 to R201) -/

theorem protRd13_keeps (s : State) : Yields (Keeps s) (execProtRd13 s) := by
  unfold execProtRd13
  split
  · exact yields_ret s _
  · split <;> exact yields_ret s _

theorem protRd_keeps (o : BitVec 4) (s : State) : Yields (Keeps s) (execProtRd o s) := by
  intro t h
  obtain ⟨v, rfl⟩ | ⟨a, rfl⟩ := protReadAction_next s h
  · exact ret_keeps s v
  · exact (mainMemRead_keeps s a).trans (ret_keeps _ _)

theorem protWr_keeps (o : BitVec 4) (d : Byte) (s : State) :
    Yields (Keeps s) (execProtWr o d s) := by
  intro t h
  obtain rfl | ⟨v, rfl⟩ | ⟨a, rfl⟩ := protWriteAction_next s h
  · exact Keeps.refl _
  · exact RegistersOnly.keeps rfl
  · exact mainMemWrite_keeps s a d

theorem inpRd_keeps (i : BitVec 16) (s : State) : Yields (Keeps s) (execInpRd i s) := by
  have hport := inputPort_keeps s i.toNat
  exact .ite (yields_oorRead s) (.ite
    (.next ((hport.trans (speechBusy_keeps _)).trans (ret_keeps _ _)))
    (.next (hport.trans (ret_keeps _ _))))

/-! ### Layers (R211 to R218, R231 to R245) -/

theorem vramRd_keeps (L : BitVec 3) (n : BitVec 16) (s : State) :
    Yields (Keeps s) (execVramRd L n s) := by
  unfold execVramRd
  split
  · exact yields_oorRead s
  · exact .ite (yields_ret s _) (yields_oorRead s)

theorem vramWr_keeps (L : BitVec 3) (n : BitVec 16) (d : Byte) (s : State) :
    Yields (Keeps s) (execVramWr L n d s) := by
  unfold execVramWr
  split
  · exact yields_oorWrite s
  · next tc tl h =>
    refine .ite (.next (keeps_of_videoFrame rfl ?_)) (yields_oorWrite s)
    exact setTile_shape ((tile?_eq_some s).1 h).2 (by simp [tileDims])

theorem sprRamWr_keeps (S : BitVec 1) (n : BitVec 15) (d : Byte) (s : State) :
    Yields (Keeps s) (execSprRamWr S n d s) := by
  refine .ite (.next (keeps_of_videoFrame ?_ (setSprite_shape (by simp [spriteDims]))))
    (yields_oorWrite s)
  cases spriteOf S <;> rfl

theorem sprCtrlRd_keeps (S : BitVec 1) (r : BitVec 15) (s : State) :
    Yields (Keeps s) (execSprCtrlRd S r s) := by
  unfold execSprCtrlRd
  split_ifs
  exacts [yields_ret s _, yields_oorRead s, yields_ret s _, yields_oorRead s]

theorem sprCtrlWr_keeps (S : BitVec 1) (r : BitVec 15) (d : Byte) (s : State) :
    Yields (Keeps s) (execSprCtrlWr S r d s) := by
  unfold execSprCtrlWr
  split_ifs
  exacts [yields_registers rfl, yields_oorWrite s, yields_registers rfl, yields_oorWrite s]

theorem markMonitor_keeps (s : State) (m : Monitor) : Keeps s (markMonitor s m) :=
  keeps_of_videoFrame rfl (markMonitor_shape s m)

theorem palbankWr_keeps (d : Byte) (s : State) : Yields (Keeps s) (execCtlPalbankWr d s) := by
  have hstore : Keeps s { s with palbank := d } := RegistersOnly.keeps rfl
  have hmark (m : Monitor) (p : Bool) (t : State) (h : Keeps s t) :
      Keeps s (if p then markMonitor t m else t) := by
    split_ifs
    exacts [h.trans (markMonitor_keeps t m), h]
  exact .next (hmark .top _ _ (hmark .bottom _ _ hstore))

theorem tileRender_keeps (L : Nat) (s : State) : Keeps s (tileRender L s) :=
  keeps_of_videoFrame (tileRender_video L s) (tileRender_shape L s)

theorem spriteRefresh_keeps (S : SpriteId) (s : State) : Keeps s (spriteRefresh S s) :=
  keeps_of_videoFrame (spriteRefresh_video S s) (spriteRefresh_shape S s)

theorem scrollComp_keeps (s : State) : Keeps s (scrollComp s) :=
  keeps_of_videoFrame (scrollComp_framesOnly s).video (scrollComp_shape s)

theorem composite0_keeps (s : State) : Keeps s (composite0 s) :=
  keeps_of_videoFrame (composite0_framesOnly s).video (composite0_shape s)

theorem composite1_keeps (s : State) : Keeps s (composite1 s) :=
  keeps_of_videoFrame (composite1_framesOnly s).video (composite1_shape s)

/-! ### Road registers and colour tables (R47, R277, R278, R301, R306) -/

theorem roadRegRd_keeps (k : BitVec 3) (s : State) : Yields (Keeps s) (execRoadRegRd k s) :=
  .ite (yields_ret s _) <| .ite (yields_ret s _) <| .ite (yields_ret s _) <| .ite (yields_ret s _) <|
    .ite (yields_ret s _) <| .ite (yields_ret s _) (yields_oorRead s)

theorem roadRegWr_keeps (k : BitVec 3) (d : Byte) (s : State) :
    Yields (Keeps s) (execRoadRegWr k d s) :=
  .ite (yields_registers rfl) <| .ite (yields_registers rfl) <| .ite (yields_registers rfl) <|
    .ite (yields_registers rfl) <| .ite (yields_registers rfl) <|
      .ite (yields_registers rfl) (yields_oorWrite s)

theorem palBuild_keeps (s : State) : Yields (Keeps s) (execPalBuild s) :=
  .next ⟨rfl, rfl, rfl, rfl, BitsWithin.refl _, rfl, id,
    fun ⟨hmask, _, hcolor⟩ => ⟨hmask, buildRgbTable_length _, hcolor⟩⟩

/-- A rebuilt colour table has the size its layer has on the board, so it takes the place of one of that
size. -/
theorem palCtBuild_keeps (g : BitVec 3) (s : State) : Yields (Keeps s) (execPalCtBuild g s) := by
  unfold execPalCtBuild
  split
  · next ct hct =>
    refine .next ⟨rfl, rfl, rfl, rfl, BitsWithin.refl _, rfl, id, ?_⟩
    rintro ⟨hmask, hrgb, hcolor⟩
    refine ⟨hmask, hrgb, ?_⟩
    obtain ⟨hg, rfl⟩ := List.getElem?_eq_some_iff.1 hct
    dsimp only
    rw [List.map_set, hcolor, buildColorTable_length]
    rw [← List.getElem_map ColorTableCfg.total (h := by simpa using hg), List.set_getElem_self]
  · exact .next (Keeps.refl s)

/-! ### The PPI bank (R22, R23, R116) -/

/-- A new bank has as many chips, and all its direction masks are lawful if the old ones were. -/
structure BankKept (old new : List Chip) : Prop where
  length : new.length = old.length
  masksOk : (∀ ch ∈ old, ch.masksOk) → ∀ ch ∈ new, ch.masksOk

theorem BankKept.refl (bank : List Chip) : BankKept bank bank := ⟨rfl, id⟩

theorem bankKept_set {bank : List Chip} {n : Nat} {ch new : Chip} (hch : ch ∈ bank)
    (hnew : ch.masksOk → new.masksOk) : BankKept bank (bank.set n new) := by
  refine ⟨List.length_set, fun hold x hx => ?_⟩
  obtain hx | rfl := List.mem_or_eq_of_mem_set hx
  · exact hold x hx
  · exact hnew (hold ch hch)

theorem initial_masksOk : Chip.initial.masksOk := by decide

theorem setLatch_masksOk {ch : Chip} {p : Port} {v : Byte} (h : ch.masksOk) :
    (ch.setLatch p v).masksOk := by
  cases p <;> exact h

/-- A mode set programs each whole port, and port C by nibbles (R116). -/
theorem modeSet_masksOk (d : Byte) (ga : BitVec 2) (da dcu gb db dcl : BitVec 1) :
    (Chip.modeSet d ga da dcu gb db dcl).masksOk := by
  have hport (b : BitVec 1) : portMask b = 0x00 ∨ portMask b = 0xFF := by
    revert b
    decide
  have hportC (u l : BitVec 1) : portCMask u l = 0x00 ∨ portCMask u l = 0x0F ∨
      portCMask u l = 0xF0 ∨ portCMask u l = 0xFF := by
    revert u l
    decide
  exact ⟨hport da, hport db, hportC dcu dcl⟩

theorem initChips_kept (n : Nat) (bank : List Chip) : BankKept bank (initChips n bank) := by
  refine ⟨initChips_length n bank, fun hold ch hch => ?_⟩
  obtain ⟨c, hc⟩ := List.mem_iff_getElem?.1 hch
  rw [initChips_getElem?] at hc
  obtain ⟨old, hmem, rfl⟩ := Option.map_eq_some_iff.1 hc
  split_ifs
  exacts [initial_masksOk, hold old (List.mem_of_getElem? hmem)]

/-- Only the bank and the trace differ between `s` and `t`, the bank as `BankKept` says. -/
structure BankOnly (s t : State) : Prop where
  frame : t = { s with ppi := t.ppi, trace := t.trace }
  kept : BankKept s.ppi t.ppi

theorem BankOnly.refl (s : State) : BankOnly s s := ⟨rfl, BankKept.refl _⟩

theorem emitPort_bankOnly {s t : State} (h : BankOnly s t) (c : BitVec 3) (ch : Chip) (p : Port) :
    BankOnly s (emitPort t c ch p) := by
  obtain ⟨ht, hk⟩ := h
  rw [emitPort_eq]
  exact ⟨by rw [ht], hk⟩

theorem setChip_bankOnly {s : State} {c : BitVec 3} {ch new : Chip} (hch : s.chip? c = some ch)
    (hnew : ch.masksOk → new.masksOk) : BankOnly s (s.setChip c new) :=
  ⟨rfl, bankKept_set (chip?_mem s hch) hnew⟩

theorem writePort_bankOnly (c : BitVec 3) (p : Port) (d : Byte) (s : State) :
    Yields (BankOnly s) (writePort c p d s) := by
  intro t h
  obtain ⟨_, rfl⟩ | ⟨ch, hch, rfl⟩ := writePort_next s h
  · exact BankOnly.refl _
  · exact emitPort_bankOnly (setChip_bankOnly hch setLatch_masksOk) c _ p

theorem ppiWrMode_bankOnly (c : BitVec 3) (ga : BitVec 2) (da dcu gb db dcl : BitVec 1) (s : State) :
    Yields (BankOnly s) (execPpiWrMode c ga da dcu gb db dcl s) := by
  unfold execPpiWrMode
  split
  · exact .next (BankOnly.refl s)
  · next ch hch =>
    have hset := setChip_bankOnly hch fun _ =>
      modeSet_masksOk (modeSetByte ga da dcu gb db dcl) ga da dcu gb db dcl
    exact .next (emitPort_bankOnly (emitPort_bankOnly (emitPort_bankOnly hset c _ .a) c _ .b) c _ .c)

theorem ppiWrBsr_bankOnly (c x n : BitVec 3) (b : BitVec 1) (s : State) :
    Yields (BankOnly s) (execPpiWrBsr c x n b s) := by
  unfold execPpiWrBsr
  split
  · exact .next (BankOnly.refl s)
  · next ch hch =>
    refine .next (emitPort_bankOnly (setChip_bankOnly hch ?_) c _ .c)
    exact id

theorem ppiInit_bankOnly (n : Byte) (s : State) : Yields (BankOnly s) (execPpiInit n s) := by
  unfold execPpiInit
  split_ifs
  · rintro t ⟨⟩
  · exact .next ⟨rfl, initChips_kept _ _⟩

/-! ### What an operation can have done -/

/-- The operations that write the PPI bank. -/
def WritesBank (i : Instr) : Prop :=
  (∃ n, i = .ppiInit n) ∨ (∃ c d, i = .ppiWrA c d) ∨ (∃ c d, i = .ppiWrB c d) ∨
    (∃ c d, i = .ppiWrC c d) ∨ (∃ c ga da dcu gb db dcl, i = .ppiWrMode c ga da dcu gb db dcl) ∨
    ∃ c x n b, i = .ppiWrBsr c x n b

/-- The operations that write the NVRAM (R87). -/
def WritesNvram (i : Instr) : Prop := i = .nvImport ∨ ∃ n d, i = .nvWr n d

/-- What operation `i` from `s` can have left: everything an ordinary operation keeps, or one of the writes
that have an owner. -/
inductive Effect (s : State) : Instr → State → Prop
  | ordinary {i : Instr} {t : State} (h : Keeps s t) : Effect s i t
  | reset : Effect s .seqReset (resetState s)
  | mode (d : Byte) : Effect s (.protWr13 d) { s with modeSelector := some d }
  | clear : Effect s .roadCollClr { s with collision := 0 }
  | bank {i : Instr} {t : State} (hi : WritesBank i) (h : BankOnly s t) : Effect s i t
  | nvram {i : Instr} (hi : WritesNvram i) (m : Memory) : Effect s i { s with nvram := m }

/-- Every operation that answers a next state has one of the effects. -/
theorem exec_yields_effect (i : Instr) (s : State) : Yields (Effect s i) (exec i s) := by
  have ordinary {r : Result} (h : Yields (Keeps s) r) : Yields (Effect s i) r :=
    h.mono fun _ => .ordinary
  have bank {r : Result} (hi : WritesBank i) (h : Yields (BankOnly s) r) : Yields (Effect s i) r :=
    h.mono fun _ => .bank hi
  cases i with
  | seqReset =>
    show Yields _ (execSeqReset s)
    unfold execSeqReset
    split
    · rintro t ⟨⟩
    · exact .next .reset
  | seqFrame fullRefresh => exact ordinary (.next (renderFrame_keeps _ s))
  | seqCollOnly => exact ordinary (.next (roadPass_keeps _ s))
  | seqScrollComp => exact ordinary (.next (scrollComp_keeps s))
  | ppiInit n => exact bank (.inl ⟨n, rfl⟩) (ppiInit_bankOnly n s)
  | tileRender L => exact ordinary (.next (tileRender_keeps _ s))
  | sprRefresh S =>
    exact ordinary (.ite (.next (spriteRefresh_keeps _ s)) (.ite (.next (spriteRefresh_keeps _ s))
      (.next (Keeps.refl s))))
  | sprComposite0 => exact ordinary (.next (composite0_keeps s))
  | sprComposite1 => exact ordinary (.next (composite1_keeps s))
  | roadParams => exact ordinary (.next (roadParams_keeps s))
  | roadLine minimal y => exact ordinary (.next (roadLine_keeps _ _ s))
  | palBuild => exact ordinary (palBuild_keeps s)
  | palCtBuild g => exact ordinary (palCtBuild_keeps g s)
  | nvExport => exact ordinary (.next (emit_keeps s _))
  | nvImport => exact .next (.nvram (.inl rfl) _)
  | ppiRdA c => exact ordinary (readPort_keeps c .a s)
  | ppiRdB c => exact ordinary (readPort_keeps c .b s)
  | ppiRdC c => exact ordinary (ppiRdC_keeps c s)
  | ppiRdCtrl c => exact ordinary (ppiRdCtrl_keeps c s)
  | ppiWrA c d => exact bank (.inr (.inl ⟨c, d, rfl⟩)) (writePort_bankOnly c .a d s)
  | ppiWrB c d => exact bank (.inr (.inr (.inl ⟨c, d, rfl⟩))) (writePort_bankOnly c .b d s)
  | ppiWrC c d => exact bank (.inr (.inr (.inr (.inl ⟨c, d, rfl⟩)))) (writePort_bankOnly c .c d s)
  | ppiWrMode c ga da dcu gb db dcl =>
    exact bank (.inr (.inr (.inr (.inr (.inl ⟨c, ga, da, dcu, gb, db, dcl, rfl⟩)))))
      (ppiWrMode_bankOnly c ga da dcu gb db dcl s)
  | ppiWrBsr c x n b =>
    exact bank (.inr (.inr (.inr (.inr (.inr ⟨c, x, n, b, rfl⟩))))) (ppiWrBsr_bankOnly c x n b s)
  | protRd13 => exact ordinary (protRd13_keeps s)
  | protWr13 d => exact .next (.mode d)
  | protRd o => exact ordinary (protRd_keeps o s)
  | protWr o d => exact ordinary (protWr_keeps o d s)
  | sndLatchRd n => exact ordinary (yields_ret s _)
  | sndLatchWr n d => exact ordinary (.ite (yields_registers rfl) (yields_registers rfl))
  | sndSpeechResetWr level =>
    exact ordinary (.next ((speechLine_keeps _ _ _).after_registers rfl))
  | sndSpeechStartWr level =>
    exact ordinary (.next ((speechLine_keeps _ _ _).after_registers rfl))
  | sndSpeechVcuWr level =>
    exact ordinary (.next ((speechLine_keeps _ _ _).after_registers rfl))
  | sndSpeechDataWr d => exact ordinary (.next (speechLine_keeps s _ _))
  | sndCpuResetWr d =>
    exact ordinary (.next ((soundCpuReset_keeps _ _).after_registers rfl))
  | vramRd L n => exact ordinary (vramRd_keeps L n s)
  | vramWr L n d => exact ordinary (vramWr_keeps L n d s)
  | sprRamRd S n => exact ordinary (.ite (yields_ret s _) (yields_oorRead s))
  | sprRamWr S n d => exact ordinary (sprRamWr_keeps S n d s)
  | sprCtrlRd S r => exact ordinary (sprCtrlRd_keeps S r s)
  | sprCtrlWr S r d => exact ordinary (sprCtrlWr_keeps S r d s)
  | roadCollRd => exact ordinary (yields_ret s _)
  | roadCollClr => exact .next .clear
  | roadRegRd k => exact ordinary (roadRegRd_keeps k s)
  | roadRegWr k d => exact ordinary (roadRegWr_keeps k d s)
  | roadSprRd n => exact ordinary (.ite (yields_ret s _) (yields_oorRead s))
  | roadSprWr n d => exact ordinary (.ite (yields_registers rfl) (yields_oorWrite s))
  | ctlPalbankRd => exact ordinary (yields_ret s _)
  | ctlPalbankWr d => exact ordinary (palbankWr_keeps d s)
  | ctlScrollRd n => exact ordinary (.ite (yields_ret s _) (yields_oorRead s))
  | ctlScrollWr n d => exact ordinary (.ite (yields_registers rfl) (yields_oorWrite s))
  | nvRd n => exact ordinary (.ite (yields_ret s _) (yields_oorRead s))
  | nvWr n d =>
    exact .ite (.next (.nvram (.inr ⟨n, d, rfl⟩) _)) (ordinary (yields_oorWrite s))
  | inpRd n => exact ordinary (inpRd_keeps n s)
  | busOor unit w => exact ordinary (.ite (yields_oorRead s) (yields_oorWrite s))

theorem effect_of_exec {i : Instr} {s t : State} (h : exec i s = .next t) : Effect s i t :=
  exec_yields_effect i s t h

/-! ### Who writes what (R28, R43, R49) -/

theorem Effect.writes_modeSelector {s t : State} {i : Instr} (h : Effect s i t)
    (hne : t.modeSelector ≠ s.modeSelector) : i = .seqReset ∨ ∃ d, i = .protWr13 d := by
  cases h with
  | ordinary h => exact absurd h.modeSelector hne
  | reset => exact .inl rfl
  | mode d => exact .inr ⟨d, rfl⟩
  | bank _ h =>
    rw [h.frame] at hne
    exact absurd rfl hne
  | _ => exact absurd rfl hne

theorem Effect.loses_collision {s t : State} {i : Instr} (h : Effect s i t)
    (hne : s.collision ||| t.collision ≠ t.collision) : i = .seqReset ∨ i = .roadCollClr := by
  cases h with
  | ordinary h => exact absurd h.gains hne
  | reset => exact .inl rfl
  | clear => exact .inr rfl
  | bank _ h =>
    rw [h.frame] at hne
    exact absurd (BitsWithin.refl _) hne
  | _ => exact absurd (BitsWithin.refl _) hne

theorem Effect.writes_ppi {s t : State} {i : Instr} (h : Effect s i t) (hne : t.ppi ≠ s.ppi) :
    i = .seqReset ∨ WritesBank i := by
  cases h with
  | ordinary h => exact absurd h.ppi hne
  | reset => exact .inl rfl
  | bank hi _ => exact .inr hi
  | _ => exact absurd rfl hne

/-- SEQ.RESET is no writer of the NVRAM (R53). -/
theorem Effect.writes_nvram {s t : State} {i : Instr} (h : Effect s i t)
    (hne : t.nvram ≠ s.nvram) : WritesNvram i := by
  cases h with
  | ordinary h => exact absurd h.nvram hne
  | nvram hi _ => exact hi
  | bank _ h =>
    rw [h.frame] at hne
    exact absurd rfl hne
  | _ => exact absurd rfl hne

/-- Settles O59: only the effects of the owners write the latch, the accumulator's losses, the bank and the
NVRAM. -/
theorem whoWritesWhat : Obligations.WhoWritesWhat := fun _ _ _ h =>
  have he := effect_of_exec h
  ⟨he.writes_modeSelector, he.loses_collision, he.writes_ppi, he.writes_nvram⟩

/-! ### A state right after reset (R53) -/

theorem fresh_masksOk (c : Config) (f : Fill) : (State.fresh c f).masksOk := by
  intro ch hch
  obtain rfl := List.eq_of_mem_replicate hch
  exact initial_masksOk

theorem fresh_shape (c : Config) (f : Fill) : stateShape (State.fresh c f) = boardShape c := by
  have htiles : (State.fresh c f).tiles.map tileDims =
      c.tiles.map fun tc => (tc.vramSize, 8 * tc.cols, 8 * tc.rows) := by
    refine List.ext_getElem? fun L => ?_
    rw [List.getElem?_map, List.getElem?_map, fresh_tile, Option.map_map]
    congr 1
    funext tc
    simp [TileLayer.fresh, tileDims, pixmapDims, Pixmap.undrawn]
  rw [stateShape, htiles]
  simp [State.fresh, boardShape, SpriteLayer.fresh, spriteDims, pixmapDims, Pixmap.undrawn,
    spriteRamSize]

theorem fresh_sized (c : Config) (f : Fill) : (State.fresh c f).sized :=
  (sized_iff _).2 ⟨List.length_replicate, fresh_shape c f, rfl, rfl⟩

/-- Every pair of a fresh tile layer is dirty, so there is none that must show its bytes (R223). -/
theorem fresh_coherent (c : Config) (f : Fill) : (State.fresh c f).coherent := by
  intro L tc tl htc htl t ht hclean
  have htc : c.tiles[L]? = some tc := htc
  rw [fresh_tile, htc, Option.map_some, Option.some.injEq] at htl
  have hlt : 2 * t < tc.vramSize := by omega
  simp [← htl, TileLayer.fresh, dirtyBit, hlt] at hclean

/-! ### The invariants of a step -/

theorem Effect.masksOk {s t : State} {i : Instr} (h : Effect s i t) (hs : s.masksOk) :
    t.masksOk := by
  cases h with
  | ordinary h => rwa [State.masksOk, h.ppi]
  | reset => exact fresh_masksOk s.cfg (.draw s.clock)
  | bank _ h => exact h.kept.masksOk hs
  | _ => exact hs

/-- Settles O12: a chip's masks are written by PPI.INIT, the mode set and SEQ.RESET alone, each of which
writes whole ports, and port C by nibbles. -/
theorem stepKeepsDirectionMasks : Obligations.StepKeepsDirectionMasks := by
  intro s t hs hstep
  obtain ⟨_, rfl⟩ | ⟨r, rest, _, ⟨_, rfl⟩ | ⟨tw, _, hexec⟩⟩ := step_next hstep
  · exact hs
  · exact hs
  · exact (effect_of_exec hexec).masksOk hs

theorem Effect.cfg {s t : State} {i : Instr} (h : Effect s i t) : t.cfg = s.cfg := by
  cases h with
  | ordinary h => exact h.cfg
  | bank _ h => rw [h.frame]
  | _ => rfl

theorem Effect.sized {s t : State} {i : Instr} (h : Effect s i t) (hs : s.sized) : t.sized := by
  cases h with
  | ordinary h =>
    obtain ⟨hppi, hshape, hidle⟩ := (sized_iff s).1 hs
    exact (sized_iff t).2 ⟨by rw [h.ppi, h.cfg, hppi], by rw [h.shape, h.cfg, hshape], h.idle hidle⟩
  | reset => exact fresh_sized s.cfg (.draw s.clock)
  | bank _ h =>
    obtain ⟨hppi, hrest⟩ := hs
    rw [h.frame]
    exact ⟨h.kept.length.trans hppi, hrest⟩
  | _ => exact hs

theorem Effect.tablesSized {s t : State} {i : Instr} (h : Effect s i t) (hs : s.tablesSized) :
    t.tablesSized := by
  cases h with
  | ordinary h => exact h.tables hs
  | reset => exact fresh_tablesSized s.cfg (.draw s.clock)
  | bank _ h =>
    rw [h.frame]
    exact hs
  | _ => exact hs

/-- Settles O55: no effect writes the board, each keeps the sizes, and a scanline ends with its working
state empty. -/
theorem stepKeepsTheBoardAndSizes : Obligations.StepKeepsTheBoardAndSizes := by
  intro s t hstep
  obtain ⟨_, rfl⟩ | ⟨r, rest, _, ⟨_, rfl⟩ | ⟨tw, _, hexec⟩⟩ := step_next hstep
  · exact ⟨rfl, id, id⟩
  · exact ⟨rfl, id, id⟩
  · have he := effect_of_exec hexec
    exact ⟨he.cfg, he.sized, he.tablesSized⟩

/-! ### PPI.INIT and SEQ.RESET -/

/-- Settles O11: up to four chips `initChips` gives the bank position by position; above four the guard
refuses. -/
theorem ppiInit : Obligations.PpiInit := by
  intro s n
  have hexec : exec (.ppiInit n) s = execPpiInit n s := rfl
  rw [hexec, execPpiInit]
  constructor
  · intro hle
    rw [if_neg (by omega)]
    exact ⟨_, rfl, initChips_getElem? n.toNat s.ppi⟩
  · exact fun hlt => if_pos hlt

/-- A drawn sprite record is one of the listed ones, where there are any (R53, R349). -/
theorem drawnParam_mem {image : List SpriteParam} (himage : image ≠ []) (n slot : Nat) :
    (Fill.draw n).param image slot ∈ image := by
  obtain ⟨first, rest, rfl⟩ := List.exists_cons_of_ne_nil himage
  rw [Fill.param, List.getD_eq_getElem?_getD]
  cases h : (first :: rest)[Config.drawParam n slot]? with
  | none => exact List.mem_cons_self
  | some P => exact List.mem_of_getElem? h

/-- A checked road board lists a sprite record: an index function overruns an empty list (R346). -/
theorem paramImage_ne_nil {c : Config} (hcheck : checkConfiguration c = none)
    (hroad : c.roadBoard = true) : c.road.paramImage ≠ [] := by
  intro himage
  refine (checkConfiguration_eq_none_iff c).1 hcheck .spriteRowData ⟨hroad, .inl ⟨([], 0), ?_⟩⟩
  simp [himage]

/-- Settles O44: the check decides the outcome, and `resetState` takes the reset values from a fresh
state. -/
theorem seqReset : Obligations.SeqReset := by
  intro s
  refine ⟨fun name h => exec_seqReset_of_some h, fun h => ⟨_, exec_seqReset_of_none h, rfl, rfl, rfl,
    rfl, rfl, rfl, ?_, fun L tc htc => ?_, rfl, rfl, fun hroad slot => ?_, rfl, rfl⟩⟩
  · simp [resetState, State.fresh]
  · exact ⟨TileLayer.fresh (.draw s.clock) tc L, by rw [resetState, fresh_tile, htc]; rfl, rfl⟩
  · simpa [resetState, State.fresh] using drawnParam_mem (paramImage_ne_nil h hroad) s.clock slot

theorem baseline_checked : checkConfiguration baseline = none := by decide

/-- Settles O60: a fresh state meets the invariants on every board, and nothing is presented to it. -/
theorem resetMeetsTheInvariants : Obligations.ResetMeetsTheInvariants :=
  ⟨fresh_masksOk _ _, reset_canonical, fresh_sized _ _, fresh_tablesSized _ _, ⟨rfl, rfl⟩,
    fresh_coherent _ _, baseline_checked, rfl, rfl⟩

end Sys2Proof.Proofs
end

section
/-!
PROOFS. What a bus transaction and an operation answer (`20_memory.md`): a read asks, returns one byte and
changes nothing else; every other operation keeps the canonical form of the memories and bitmaps and hands
a port-write callback nothing but 1 on inputs; two operations can stop.  `Answers` is the first, `Upholds`
the second, and `Outcome` lists all that an operation can answer.
-/

namespace Sys2Proof.Proofs

open Sys2Proof Sys2Proof.Machine

/-! ### Reads (R78, R81) -/

/-- The event is a call of a read capability (R85). -/
def Asks : Event → Prop
  | .extRead _ _ | .inputPort _ | .speechBusy | .mainMemRead _ => True
  | .busReturn _ | .extWrite _ _ _ | .mainMemWrite _ _ | .speechLine _ _ | .soundCpuReset _
  | .framePresent _ _ | .nvExport _ => False

/-- `u` is `s` after calls of read capabilities alone. -/
def Asked (s u : State) : Prop :=
  ∃ asked : List Event, u = { s with trace := s.trace ++ asked } ∧ ∀ e ∈ asked, Asks e

theorem Asked.refl (s : State) : Asked s s := ⟨[], by simp, by simp⟩

theorem Asked.emit {s u : State} (h : Asked s u) {e : Event} (he : Asks e) : Asked s (u.emit e) := by
  obtain ⟨asked, rfl, hasked⟩ := h
  refine ⟨asked ++ [e], by simp [State.emit], fun x hx => ?_⟩
  obtain hx | hx := List.mem_append.1 hx
  · exact hasked x hx
  · rwa [List.mem_singleton.1 hx]

/-- A read capability appends its call, where it is present. -/
theorem Asked.call {α : Type} {s u : State} {r : α × State} {v w : α} {e : Event} (h : Asked s u)
    (hr : r = (v, u.emit e) ∨ r = (w, u)) (he : Asks e) : Asked s r.2 := by
  obtain rfl | rfl := hr
  exacts [h.emit he, h]

theorem extRead_asked (s : State) (c : Nat) (p : Port) : Asked s (extRead s c p).2 :=
  (Asked.refl s).call (extRead_cases s c p) trivial

theorem mainMemRead_asked (s : State) (a : Nat) : Asked s (mainMemRead s a).2 :=
  (Asked.refl s).call (mainMemRead_cases s a) trivial

theorem inputPort_asked (s : State) (i : Nat) : Asked s (inputPort s i).2 :=
  (Asked.refl s).call (inputPort_cases s i) trivial

/-- The outcome is a state, and that state has the property. -/
def Completes (P : State → Prop) (r : Result) : Prop := ∃ t, r = .next t ∧ P t

theorem Completes.next {P : State → Prop} {t : State} (h : P t) : Completes P (.next t) := ⟨t, rfl, h⟩

theorem Completes.ite {P : State → Prop} {p : Prop} [Decidable p] {a b : Result}
    (ha : Completes P a) (hb : Completes P b) : Completes P (if p then a else b) := by
  split_ifs
  exacts [ha, hb]

theorem Completes.mono {P Q : State → Prop} {r : Result} (h : Completes P r) (hPQ : ∀ t, P t → Q t) :
    Completes Q r := by
  obtain ⟨t, ht, hP⟩ := h
  exact ⟨t, ht, hPQ t hP⟩

/-- `t` is `s` after calls of read capabilities and then the return of one byte. -/
def Answered (s t : State) : Prop := ∃ u v, Asked s u ∧ t = u.ret v

theorem answers_after {s u : State} (h : Asked s u) (v : Byte) : Completes (Answered s) (.next (u.ret v)) :=
  .next ⟨u, v, h, rfl⟩

theorem answers_ret (s : State) (v : Byte) : Completes (Answered s) (.next (s.ret v)) :=
  answers_after (Asked.refl s) v

theorem answers_oorRead (s : State) : Completes (Answered s) (oorRead s) := answers_ret s _

theorem readPort_answers (c : BitVec 3) (p : Port) (s : State) :
    Completes (Answered s) (readPort c p s) := by
  unfold readPort
  split
  · exact answers_oorRead s
  · exact .ite (answers_ret s _) (answers_after (extRead_asked s _ _) _)

theorem ppiRdC_answers (c : BitVec 3) (s : State) : Completes (Answered s) (execPpiRdC c s) := by
  unfold execPpiRdC
  split
  · exact answers_oorRead s
  · exact answers_after (extRead_asked s _ _) _

theorem ppiRdCtrl_answers (c : BitVec 3) (s : State) :
    Completes (Answered s) (execPpiRdCtrl c s) := by
  unfold execPpiRdCtrl
  split
  exacts [answers_oorRead s, answers_ret s _]

theorem protRd13_answers (s : State) : Completes (Answered s) (execProtRd13 s) := by
  unfold execProtRd13
  split
  · exact answers_ret s _
  · split <;> exact answers_ret s _

theorem protRd_answers (o : BitVec 4) (s : State) : Completes (Answered s) (execProtRd o s) := by
  obtain ⟨t, ht⟩ := protReadAction_goes_on s (lookupRead s.cfg.prot o s.modeSelector s.mainPC) o
  refine ⟨t, ht, ?_⟩
  obtain ⟨v, rfl⟩ | ⟨a, rfl⟩ := protReadAction_next s ht
  · exact ⟨s, v, Asked.refl s, rfl⟩
  · exact ⟨_, _, mainMemRead_asked s a, rfl⟩

theorem vramRd_answers (L : BitVec 3) (n : BitVec 16) (s : State) :
    Completes (Answered s) (execVramRd L n s) := by
  unfold execVramRd
  split
  · exact answers_oorRead s
  · exact .ite (answers_ret s _) (answers_oorRead s)

theorem sprCtrlRd_answers (S : BitVec 1) (r : BitVec 15) (s : State) :
    Completes (Answered s) (execSprCtrlRd S r s) := by
  unfold execSprCtrlRd
  split_ifs
  exacts [answers_ret s _, answers_oorRead s, answers_ret s _, answers_oorRead s]

theorem roadRegRd_answers (k : BitVec 3) (s : State) :
    Completes (Answered s) (execRoadRegRd k s) :=
  .ite (answers_ret s _) <| .ite (answers_ret s _) <| .ite (answers_ret s _) <|
    .ite (answers_ret s _) <| .ite (answers_ret s _) <| .ite (answers_ret s _) (answers_oorRead s)

theorem inpRd_answers (i : BitVec 16) (s : State) : Completes (Answered s) (execInpRd i s) :=
  have hport := inputPort_asked s i.toNat
  .ite (answers_oorRead s) (.ite
    (answers_after (hport.call (speechBusy_cases _) trivial) _) (answers_after hport _))

/-- The operations a word with `w` = 0 decodes to. -/
inductive ReadOp : Instr → Prop
  | ppiA (c : BitVec 3) : ReadOp (.ppiRdA c)
  | ppiB (c : BitVec 3) : ReadOp (.ppiRdB c)
  | ppiC (c : BitVec 3) : ReadOp (.ppiRdC c)
  | ppiCtrl (c : BitVec 3) : ReadOp (.ppiRdCtrl c)
  | prot13 : ReadOp .protRd13
  | prot (o : BitVec 4) : ReadOp (.protRd o)
  | sndLatch (i : BitVec 1) : ReadOp (.sndLatchRd i)
  | vram (L : BitVec 3) (n : BitVec 16) : ReadOp (.vramRd L n)
  | sprRam (S : BitVec 1) (n : BitVec 15) : ReadOp (.sprRamRd S n)
  | sprCtrl (S : BitVec 1) (r : BitVec 15) : ReadOp (.sprCtrlRd S r)
  | roadColl : ReadOp .roadCollRd
  | roadReg (k : BitVec 3) : ReadOp (.roadRegRd k)
  | roadSpr (n : BitVec 12) : ReadOp (.roadSprRd n)
  | palbank : ReadOp .ctlPalbankRd
  | scroll (i : Byte) : ReadOp (.ctlScrollRd i)
  | nv (n : BitVec 16) : ReadOp (.nvRd n)
  | inp (i : BitVec 16) : ReadOp (.inpRd i)
  | oor (unit : BitVec 4) : ReadOp (.busOor unit 0)

/-- A read transaction completes with one byte (R78) and changes no state (R81). -/
theorem exec_answers {i : Instr} (h : ReadOp i) (s : State) : Completes (Answered s) (exec i s) := by
  cases h with
  | ppiA c => exact readPort_answers c .a s
  | ppiB c => exact readPort_answers c .b s
  | ppiC c => exact ppiRdC_answers c s
  | ppiCtrl c => exact ppiRdCtrl_answers c s
  | prot13 => exact protRd13_answers s
  | prot o => exact protRd_answers o s
  | sndLatch i => exact answers_ret s _
  | vram L n => exact vramRd_answers L n s
  | sprRam S n => exact .ite (answers_ret s _) (answers_oorRead s)
  | sprCtrl S r => exact sprCtrlRd_answers S r s
  | roadColl => exact answers_ret s _
  | roadReg k => exact roadRegRd_answers k s
  | roadSpr n => exact .ite (answers_ret s _) (answers_oorRead s)
  | palbank => exact answers_ret s _
  | scroll i => exact .ite (answers_ret s _) (answers_oorRead s)
  | nv n => exact .ite (answers_ret s _) (answers_oorRead s)
  | inp i => exact inpRd_answers i s
  | oor unit => exact answers_oorRead s

/-- With `w` = 0 the decoder of every unit gives a read: unit 0 has none but BUS.OOR (R101, R103). -/
theorem decodeFields_read (unit : BitVec 4) (inst : BitVec 3) (sel : BitVec 16) (data : Byte) :
    ReadOp (decodeFields unit 0 inst sel data) := by
  unfold decodeFields
  split_ifs
  · exact .oor 0
  · simp only [decodePpi, ↓reduceIte]
    split_ifs
    exacts [.ppiA _, .ppiB _, .ppiC _, .ppiCtrl _, .oor _]
  · simp only [decodeProt, ↓reduceIte]
    split_ifs
    exacts [.prot13, .prot _, .oor _]
  · simp only [decodeSnd, ↓reduceIte]
    split_ifs
    exacts [.sndLatch _, .oor _]
  · exact .vram _ _
  · simp only [decodeSpr, ↓reduceIte]
    split_ifs
    exacts [.sprRam _ _, .sprCtrl _ _, .oor _]
  · simp only [decodeRoad, ↓reduceIte]
    split_ifs
    exacts [.roadColl, .roadReg _, .roadSpr _, .oor _]
  · simp only [decodeCtl, ↓reduceIte]
    split_ifs
    exacts [.palbank, .scroll _, .oor _]
  · simp only [decodeNv, ↓reduceIte]
    split_ifs
    exacts [.nv _, .oor _]
  · simp only [decodeInp, and_true]
    split_ifs
    exacts [.inp _, .oor _]
  · exact .oor _

theorem decode_read {tw : TW} (h : wOf tw = 0) : ReadOp (decode tw) := by
  rw [decode, h]
  exact decodeFields_read _ _ _ _

/-- Settles O57: the word decodes to a read, and a read leaves its questions and then its one byte in the
trace. -/
theorem readsChangeNoState : Obligations.ReadsChangeNoState := by
  intro s tw hw
  obtain ⟨_, hexec, u, v, ⟨asked, rfl, hasked⟩, rfl⟩ := exec_answers (decode_read hw) s
  exact ⟨asked, v, hexec, fun w hmem => hasked _ hmem⟩

/-! ### Canonical form of layers and frames (log 4) -/

section Canonical

variable {s : State}

theorem ite_canonical {p : Prop} [Decidable p] {a b : State} (ha : a.canonical) (hb : b.canonical) :
    (if p then a else b).canonical := by
  split_ifs
  exacts [ha, hb]

theorem tile_wf (h : s.canonical) {L : Nat} {tl : TileLayer} (htl : s.tiles[L]? = some tl) : tl.wf := by
  obtain ⟨htiles, _⟩ := h
  exact htiles tl (List.mem_of_getElem? htl)

theorem sprite_wf (h : s.canonical) (S : SpriteId) : (s.sprite S).wf := by
  obtain ⟨_, hspr0, hspr1, _⟩ := h
  cases S
  exacts [hspr0, hspr1]

theorem frame_wf (h : s.canonical) (m : Monitor) : (s.frame m).wf := by
  obtain ⟨_, _, _, _, _, _, htop, hbottom⟩ := h
  cases m
  exacts [htop, hbottom]

theorem setTile_canonical (h : s.canonical) (L : Nat) {tl : TileLayer} (htl : tl.wf) :
    (s.setTile L tl).canonical := by
  obtain ⟨htiles, hrest⟩ := h
  refine ⟨fun x hx => ?_, hrest⟩
  obtain hx | rfl := List.mem_or_eq_of_mem_set hx
  exacts [htiles x hx, htl]

theorem setSprite_canonical (h : s.canonical) (S : SpriteId) {sl : SpriteLayer} (hsl : sl.wf) :
    (s.setSprite S sl).canonical := by
  obtain ⟨htiles, hspr0, hspr1, hrest⟩ := h
  cases S
  exacts [⟨htiles, hsl, hspr1, hrest⟩, ⟨htiles, hspr0, hsl, hrest⟩]

theorem setFrame_canonical (h : s.canonical) (m : Monitor) {p : Pixmap} (hp : p.wf) :
    (s.setFrame m p).canonical := by
  obtain ⟨htiles, hspr0, hspr1, hscroll, hroadspr, hnvram, htop, hbottom⟩ := h
  cases m
  exacts [⟨htiles, hspr0, hspr1, hscroll, hroadspr, hnvram, hp, hbottom⟩,
    ⟨htiles, hspr0, hspr1, hscroll, hroadspr, hnvram, htop, hp⟩]

theorem setScroll_canonical (h : s.canonical) {m : Memory} (hm : m.wf) :
    { s with scroll := m }.canonical := by
  obtain ⟨htiles, hspr0, hspr1, _, hrest⟩ := h
  exact ⟨htiles, hspr0, hspr1, hm, hrest⟩

theorem setRoadspr_canonical (h : s.canonical) {m : Memory} (hm : m.wf) :
    { s with roadspr := m }.canonical := by
  obtain ⟨htiles, hspr0, hspr1, hscroll, _, hrest⟩ := h
  exact ⟨htiles, hspr0, hspr1, hscroll, hm, hrest⟩

theorem setNvram_canonical (h : s.canonical) {m : Memory} (hm : m.wf) :
    { s with nvram := m }.canonical := by
  obtain ⟨htiles, hspr0, hspr1, hscroll, hroadspr, _, hrest⟩ := h
  exact ⟨htiles, hspr0, hspr1, hscroll, hroadspr, hm, hrest⟩

end Canonical

theorem paint_wf {δ : Type} (f : δ → Nat × Nat) (w : δ → Option Nat) (l : List δ) {p : Pixmap}
    (h : p.wf) : (l.foldl (paint f w) p).wf :=
  paint_keeps (P := Pixmap.wf) (fun q x y v => q.set_wf x y v) f w l p h

theorem drawCell_wf (w h : Nat) (pixel : Nat → Nat → Nat) (flip : Bool) (x0 y0 : Nat) {p : Pixmap}
    (hp : p.wf) : (drawCell w h pixel flip x0 y0 p).wf :=
  drawCell_keeps (P := Pixmap.wf) (fun q x y v => q.set_wf x y v) w h pixel flip x0 y0 p hp

theorem drawTile_wf (s : State) (tc : TileCfg) (t : Nat) (lo hi : Byte) {p : Pixmap} (hp : p.wf) :
    (drawTile s tc t lo hi p).wf := by
  rw [drawTile]
  exact drawCell_wf _ _ _ _ _ _ hp

theorem tileLayer_wf {vram : Memory} {dirty : List Bool} {bitmap : Pixmap} (hvram : vram.wf)
    (hbitmap : bitmap.wf) : TileLayer.wf ⟨vram, dirty, bitmap⟩ := ⟨hvram, hbitmap⟩

theorem renderLayer_wf (s : State) (tc : TileCfg) {tl : TileLayer} (h : tl.wf) :
    (renderLayer s tc tl).wf := by
  refine renderLayer_keeps (P := TileLayer.wf) s tc tl (fun u t hu => ?_) h
  obtain he | he := renderPair_cases s tc u t <;> rw [he]
  · exact hu
  · exact tileLayer_wf hu.1 (drawTile_wf s tc t _ _ hu.2)

theorem refreshLayer_wf (s : State) (sc : SpriteCfg) {sl : SpriteLayer} (h : sl.wf) :
    (refreshLayer s sc sl).wf := by
  refine refreshLayer_keeps (P := SpriteLayer.wf) s sc sl (fun u k hu => ?_) h
  obtain he | he := refreshCell_cases s sc u k <;> rw [he]
  · exact hu
  · exact ⟨hu.1, drawCell_wf _ _ _ _ _ _ hu.2⟩

theorem tileRender_canonical {s : State} (h : s.canonical) (L : Nat) : (tileRender L s).canonical := by
  unfold tileRender
  split
  · next tc tl htl =>
    obtain ⟨_, htl⟩ := (tile?_eq_some s).1 htl
    exact setTile_canonical h L (renderLayer_wf s tc (tile_wf h htl))
  · exact h

theorem spriteRefresh_canonical {s : State} (h : s.canonical) (S : SpriteId) :
    (spriteRefresh S s).canonical :=
  setSprite_canonical h S (refreshLayer_wf s _ (sprite_wf h S))

theorem scrollComp_canonical {s : State} (h : s.canonical) : (scrollComp s).canonical := by
  refine foldl_keeps (P := State.canonical) _ s (fun t L _ ht => ?_) h
  unfold scrollLayer
  split
  · rw [scrollPixel_eq_paint]
    exact setFrame_canonical ht _ (paint_wf _ _ _ (frame_wf ht _))
  · exact ht

theorem blit_canonical {s : State} (h : s.canonical) (m : Monitor) (tr : BsTransform) :
    (blit m tr s).canonical := by
  rw [blit, blitPixel_eq_paint]
  exact setFrame_canonical h m (paint_wf _ _ _ (frame_wf h m))

theorem composite0_canonical {s : State} (h : s.canonical) : (composite0 s).canonical := by
  have hblit (p : Bool) (m : Monitor) (tr : BsTransform) {t : State} (ht : t.canonical) :
      (if p then blit m tr t else t).canonical := ite_canonical (blit_canonical ht m tr) ht
  exact ite_canonical h (hblit _ .bottom _ (hblit _ .top _ h))

theorem composite1_canonical {s : State} (h : s.canonical) : (composite1 s).canonical := by
  rw [composite1, placePixel_eq_paint]
  exact setFrame_canonical h _ (paint_wf _ _ _ (frame_wf h _))

/-- Dirty bits have no part in the canonical form. -/
theorem markMonitor_canonical {s : State} (h : s.canonical) (m : Monitor) :
    (markMonitor s m).canonical := by
  obtain ⟨htiles, hspr0, hspr1, hrest⟩ := h
  have hmark {sl : SpriteLayer} (p : Prop) [Decidable p] (hsl : sl.wf) :
      (if p then { sl with dirty := markAll sl.dirty } else sl).wf := by
    split_ifs <;> exact hsl
  refine ⟨fun tl htl => ?_, hmark _ hspr0, hmark _ hspr1, hrest⟩
  obtain ⟨L, hL⟩ := List.mem_iff_getElem?.1 htl
  rw [markMonitor_tile] at hL
  obtain ⟨old, hold, rfl⟩ := Option.map_eq_some_iff.1 hL
  have hwf := htiles old (List.mem_of_getElem? hold)
  split
  · split_ifs <;> exact hwf
  · exact hwf

theorem markEverything_canonical {s : State} (h : s.canonical) : (markEverything s).canonical := by
  obtain ⟨htiles, hrest⟩ := h
  refine ⟨fun tl htl => ?_, hrest⟩
  obtain ⟨old, hold, rfl⟩ := List.mem_map.1 htl
  exact htiles old hold

theorem beforeRoad_canonical {s : State} (h : s.canonical) (fullRefresh : Bool) :
    (beforeRoad fullRefresh s).canonical := by
  have hmark : (if fullRefresh then markEverything s else s).canonical :=
    ite_canonical (markEverything_canonical h) h
  have htiles : (renderAllTiles (if fullRefresh then markEverything s else s)).canonical :=
    foldl_keeps (P := State.canonical) _ _ (fun t L _ ht => tileRender_canonical ht L) hmark
  exact composite1_canonical (composite0_canonical (scrollComp_canonical
    (spriteRefresh_canonical (spriteRefresh_canonical htiles .big0) .big1)))

/-! ### Canonical form in the road unit -/

/-- Of a scanline's steps only the pixel of the full pass touches a bitmap. -/
theorem roadPixelStep_canonical {s : State} (h : s.canonical) (minimal : Bool) (y va x i : Nat) :
    (roadPixelStep minimal y va x s i).canonical := by
  have htrigger (acciar : Bool) : (offRoadTrigger s y acciar).canonical := by
    obtain ⟨_, _, he⟩ | ⟨_, he⟩ := offRoadTrigger_cases s y acciar <;> rw [he] <;> exact h
  have hcollision (acciar : Bool) (a b : Nibble) :
      (orCollision (offRoadTrigger s y acciar) a b).canonical := htrigger acciar
  unfold roadPixelStep
  cases minimal
  · exact setFrame_canonical (hcollision _ _ _) _
      (Pixmap.set_wf _ _ _ _ (frame_wf (hcollision _ _ _) _))
  · exact hcollision _ _ _

theorem roadLine_canonical {s : State} (h : s.canonical) (minimal : Bool) (y : Nat) :
    (roadLine minimal y s).canonical := by
  have hchunk (va x : Nat) {t : State} (ht : t.canonical) : (roadChunk minimal y va t x).canonical :=
    foldl_keeps (P := State.canonical) _ t
      (fun _ i _ hu => roadPixelStep_canonical hu minimal y va x i) ht
  unfold roadLine
  split_ifs
  · exact h
  · exact h
  · exact foldl_keeps (P := State.canonical) _ (beginScanline s y)
      (fun _ x _ ht => hchunk (vertAddr s y) x ht) h

theorem roadParams_canonical {s : State} (h : s.canonical) : (roadParams s).canonical := by
  unfold roadParams
  split_ifs <;> exact h

theorem roadPass_canonical {s : State} (h : s.canonical) (minimal : Bool) :
    (roadPass minimal s).canonical := by
  unfold roadPass
  split_ifs
  · exact foldl_keeps (P := State.canonical) _ _ (fun _ y _ ht => roadLine_canonical ht minimal y)
      (roadParams_canonical h)
  · exact h

/-! ### The trace of the video operations (R86) -/

theorem trace_of_videoFrame {s t : State} (h : VideoFrame s t) : t.trace = s.trace := by
  rw [VideoFrame] at h
  rw [h]

theorem trace_of_passFrame {s t : State} (h : PassFrame s t) : t.trace = s.trace := by
  rw [PassFrame] at h
  rw [h]

/-! ### What an operation that completes upholds -/

/-- The trace of `t` is that of `s` and later events, and every byte they hand to a port-write callback
has 1 in every bit that the chip in `t` has as an input (R86, R155(e)). -/
def CallbacksSee (s t : State) : Prop :=
  ∃ new : List Event, t.trace = s.trace ++ new ∧
    ∀ (c : Nat) (p : Port) (v : Byte), Event.extWrite c p v ∈ new →
      ∃ ch, t.ppi[c]? = some ch ∧ v &&& ch.io p = ch.io p

/-- What every operation that answers a next state does. -/
structure Upholds (s t : State) : Prop where
  canonical : s.canonical → t.canonical
  callbacks : CallbacksSee s t

/-- An operation without output. -/
theorem upholds_silent {s t : State} (hc : s.canonical → t.canonical) (ht : t.trace = s.trace) :
    Upholds s t :=
  ⟨hc, [], by simpa using ht, by simp⟩

theorem Upholds.refl (s : State) : Upholds s s := upholds_silent id rfl

/-- An operation with one output, which is no port write. -/
theorem upholds_emit {s t : State} (hc : s.canonical → t.canonical) (ht : t.trace = s.trace) {e : Event}
    (he : ∀ c p v, e ≠ .extWrite c p v) : Upholds s (t.emit e) := by
  refine ⟨hc, [e], by rw [State.emit_trace, ht], fun c p v hmem => ?_⟩
  exact absurd (List.mem_singleton.1 hmem).symm (he c p v)

/-- A write capability appends its event, where it is present. -/
theorem upholds_told {s t u : State} {e : Event} (hu : u = t.emit e ∨ u = t)
    (hc : s.canonical → t.canonical) (ht : t.trace = s.trace) (he : ∀ c p v, e ≠ .extWrite c p v) :
    Upholds s u := by
  obtain rfl | rfl := hu
  exacts [upholds_emit hc ht he, upholds_silent hc ht]

theorem upholds_of_answered {s t : State} (h : Answered s t) : Upholds s t := by
  obtain ⟨_, v, ⟨asked, rfl, hasked⟩, rfl⟩ := h
  refine ⟨id, asked ++ [.busReturn v], by simp, fun c p w hmem => ?_⟩
  obtain hmem | hmem := List.mem_append.1 hmem
  · exact absurd (hasked _ hmem) id
  · cases List.mem_singleton.1 hmem

theorem renderFrame_upholds (fullRefresh : Bool) (s : State) :
    Upholds s (renderFrame fullRefresh s) := by
  rw [renderFrame_eq]
  refine upholds_emit (fun h => roadPass_canonical (beforeRoad_canonical h fullRefresh) false) ?_
    (by simp)
  exact (trace_of_passFrame (roadPass_frame false _)).trans
    (trace_of_videoFrame (beforeRoad_video fullRefresh s))

theorem roadPass_upholds (minimal : Bool) (s : State) : Upholds s (roadPass minimal s) :=
  upholds_silent (roadPass_canonical · minimal) (trace_of_passFrame (roadPass_frame minimal s))

theorem roadLine_upholds (minimal : Bool) (y : Nat) (s : State) : Upholds s (roadLine minimal y s) :=
  upholds_silent (roadLine_canonical · minimal y) (trace_of_passFrame (roadLine_frame minimal y s).pass)

theorem roadParams_upholds (s : State) : Upholds s (roadParams s) :=
  upholds_silent roadParams_canonical (trace_of_passFrame (roadParams_pass s))

theorem tileRender_upholds (L : Nat) (s : State) : Upholds s (tileRender L s) :=
  upholds_silent (tileRender_canonical · L) (trace_of_videoFrame (tileRender_video L s))

theorem spriteRefresh_upholds (S : SpriteId) (s : State) : Upholds s (spriteRefresh S s) :=
  upholds_silent (spriteRefresh_canonical · S) (trace_of_videoFrame (spriteRefresh_video S s))

theorem scrollComp_upholds (s : State) : Upholds s (scrollComp s) :=
  upholds_silent scrollComp_canonical (trace_of_videoFrame (scrollComp_framesOnly s).video)

theorem composite0_upholds (s : State) : Upholds s (composite0 s) :=
  upholds_silent composite0_canonical (trace_of_videoFrame (composite0_framesOnly s).video)

theorem composite1_upholds (s : State) : Upholds s (composite1 s) :=
  upholds_silent composite1_canonical (trace_of_videoFrame (composite1_framesOnly s).video)

/-- SEQ.RESET leaves fresh memories and bitmaps and the old NVRAM, and no event (R53, R321). -/
theorem resetState_upholds (s : State) : Upholds s (resetState s) := by
  refine upholds_silent (fun ⟨_, _, _, _, _, hnvram, _⟩ => ?_) rfl
  exact setNvram_canonical (fresh_canonical s.cfg (.draw s.clock)) hnvram

/-! ### Writes of the other units -/

theorem upholds_oorWrite (s : State) : Completes (Upholds s) (oorWrite s) := .next (Upholds.refl s)

/-- A write of registers, or of the model's own tables. -/
theorem completes_silent {s t : State} (hc : s.canonical → t.canonical) (ht : t.trace = s.trace) :
    Completes (Upholds s) (.next t) :=
  .next (upholds_silent hc ht)

theorem palCtBuild_upholds (g : BitVec 3) (s : State) : Completes (Upholds s) (execPalCtBuild g s) := by
  unfold execPalCtBuild
  split
  exacts [completes_silent id rfl, .next (Upholds.refl s)]

theorem importNvram_wf (size clock : Nat) (blob : List Byte) : (importNvram size clock blob).wf := by
  unfold importNvram
  split_ifs <;> exact Memory.load_wf _ _ _ (Memory.unwritten_wf _ _)

theorem nvImport_upholds (s : State) : Completes (Upholds s) (execNvImport s) :=
  completes_silent (setNvram_canonical · (importNvram_wf _ _ _)) rfl

theorem nvWr_upholds (n : BitVec 16) (d : Byte) (s : State) : Completes (Upholds s) (execNvWr n d s) := by
  refine .ite (completes_silent (fun h => ?_) rfl) (upholds_oorWrite s)
  have ⟨_, _, _, _, _, hnvram, _⟩ := h
  exact setNvram_canonical h (Memory.write_wf _ _ _ hnvram)

theorem scrollWr_upholds (i d : Byte) (s : State) : Completes (Upholds s) (execCtlScrollWr i d s) := by
  refine .ite (completes_silent (fun h => ?_) rfl) (upholds_oorWrite s)
  have ⟨_, _, _, hscroll, _⟩ := h
  exact setScroll_canonical h (Memory.write_wf _ _ _ hscroll)

theorem roadSprWr_upholds (n : BitVec 12) (d : Byte) (s : State) :
    Completes (Upholds s) (execRoadSprWr n d s) := by
  refine .ite (completes_silent (fun h => ?_) rfl) (upholds_oorWrite s)
  have ⟨_, _, _, _, hroadspr, _⟩ := h
  exact setRoadspr_canonical h (Memory.write_wf _ _ _ hroadspr)

theorem roadRegWr_upholds (k : BitVec 3) (d : Byte) (s : State) :
    Completes (Upholds s) (execRoadRegWr k d s) :=
  .ite (completes_silent id rfl) <| .ite (completes_silent id rfl) <| .ite (completes_silent id rfl) <|
    .ite (completes_silent id rfl) <| .ite (completes_silent id rfl) <|
      .ite (completes_silent id rfl) (upholds_oorWrite s)

theorem vramWr_upholds (L : BitVec 3) (n : BitVec 16) (d : Byte) (s : State) :
    Completes (Upholds s) (execVramWr L n d s) := by
  unfold execVramWr
  split
  · exact upholds_oorWrite s
  · next tc tl htl =>
    refine .ite (completes_silent (fun h => ?_) rfl) (upholds_oorWrite s)
    obtain ⟨hvram, hbitmap⟩ := tile_wf h ((tile?_eq_some s).1 htl).2
    exact setTile_canonical h _ ⟨storeTracked_wf hvram, hbitmap⟩

theorem sprRamWr_upholds (S : BitVec 1) (n : BitVec 15) (d : Byte) (s : State) :
    Completes (Upholds s) (execSprRamWr S n d s) := by
  refine .ite (completes_silent (fun h => ?_) (State.setSprite_trace s _ _)) (upholds_oorWrite s)
  obtain ⟨hram, hbitmap⟩ := sprite_wf h (spriteOf S)
  exact setSprite_canonical h _ ⟨storeTracked_wf hram, hbitmap⟩

theorem sprCtrlWr_upholds (S : BitVec 1) (r : BitVec 15) (d : Byte) (s : State) :
    Completes (Upholds s) (execSprCtrlWr S r d s) := by
  unfold execSprCtrlWr
  split_ifs
  exacts [completes_silent id rfl, upholds_oorWrite s, completes_silent id rfl, upholds_oorWrite s]

theorem palbankWr_upholds (d : Byte) (s : State) : Completes (Upholds s) (execCtlPalbankWr d s) := by
  have hmark (m : Monitor) (p : Bool) {t : State} (ht : t.canonical) :
      (if p then markMonitor t m else t).canonical := ite_canonical (markMonitor_canonical ht m) ht
  have htrace (m : Monitor) (p : Bool) (t : State) :
      (if p then markMonitor t m else t).trace = t.trace := by
    split_ifs <;> rfl
  exact completes_silent (fun h => hmark .top _ (hmark .bottom _ h))
    ((htrace .top _ _).trans (htrace .bottom _ { s with palbank := d }))

theorem protWr_upholds (o : BitVec 4) (d : Byte) (s : State) :
    Completes (Upholds s) (execProtWr o d s) := by
  obtain ⟨t, ht⟩ := protWriteAction_goes_on s (lookupWrite s.cfg.prot o s.modeSelector) o d
  refine ⟨t, ht, ?_⟩
  obtain rfl | ⟨v, rfl⟩ | ⟨a, rfl⟩ := protWriteAction_next s ht
  · exact Upholds.refl _
  · exact upholds_silent id rfl
  · exact upholds_told (mainMemWrite_cases s a d) id rfl (by simp)

/-- A speech line is driven from a state that differs from `s` at most in the levels. -/
theorem speechLine_upholds {s t : State}
    (ht : t = { s with
      speechReset := t.speechReset, speechStart := t.speechStart, speechVcu := t.speechVcu })
    (line : SpeechLine) (v : Byte) : Upholds s (speechLine t line v) := by
  refine upholds_told (speechLine_cases t line v) (fun h => ?_) ?_ (by simp) <;> rw [ht]
  exact h

theorem sndCpuResetWr_upholds (d : Byte) (s : State) :
    Completes (Upholds s) (execSndCpuResetWr d s) :=
  .next (upholds_told (soundCpuReset_cases _ _) id rfl (by simp))

/-! ### PPI writes (R141, R148 to R152) -/

/-- `t` is `s` with `ch` now the chip at `c` and calls of that chip's callbacks behind, each with the value
R141 gives. -/
structure Emitted (s : State) (c : BitVec 3) (ch : Chip) (t : State) : Prop where
  canonical : s.canonical → t.canonical
  chip : t.ppi[c.toNat]? = some ch
  calls : ∃ new : List Event, t.trace = s.trace ++ new ∧
    ∀ e ∈ new, ∃ p, e = .extWrite c.toNat p (ch.muxed p)

theorem emitted_setChip {s : State} {c : BitVec 3} {old : Chip} (h : s.chip? c = some old) (ch : Chip) :
    Emitted s c ch (s.setChip c ch) :=
  ⟨id, setChip_getElem? s ch h, [], by simp, by simp⟩

theorem Emitted.emitPort {s t : State} {c : BitVec 3} {ch : Chip} (h : Emitted s c ch t) (p : Port) :
    Emitted s c ch (emitPort t c ch p) := by
  obtain ⟨hc, hchip, new, ht, hnew⟩ := h
  rw [emitPort_eq]
  refine ⟨hc, hchip, new ++ callbackEvents t c.toNat p (ch.muxed p), by simp [ht], fun e he => ?_⟩
  obtain he | he := List.mem_append.1 he
  · exact hnew e he
  · unfold callbackEvents at he
    split_ifs at he
    · exact ⟨p, List.mem_singleton.1 he⟩
    · cases he

/-- The value of R141 has 1 in every input bit of the chip it is emitted for. -/
theorem Emitted.upholds {s t : State} {c : BitVec 3} {ch : Chip} (h : Emitted s c ch t) :
    Upholds s t := by
  obtain ⟨hc, hchip, new, ht, hnew⟩ := h
  refine ⟨hc, new, ht, fun c' p v hmem => ?_⟩
  obtain ⟨q, he⟩ := hnew _ hmem
  obtain ⟨rfl, rfl, rfl⟩ := Event.extWrite.inj he
  exact ⟨ch, hchip, muxed_input_bits ch p⟩

theorem writePort_upholds (c : BitVec 3) (p : Port) (d : Byte) (s : State) :
    Completes (Upholds s) (writePort c p d s) := by
  unfold writePort
  split
  · exact upholds_oorWrite s
  · next ch hch => exact .next ((emitted_setChip hch _).emitPort p).upholds

theorem ppiWrMode_upholds (c : BitVec 3) (ga : BitVec 2) (da dcu gb db dcl : BitVec 1) (s : State) :
    Completes (Upholds s) (execPpiWrMode c ga da dcu gb db dcl s) := by
  unfold execPpiWrMode
  split
  · exact upholds_oorWrite s
  · next ch hch =>
    exact .next ((((emitted_setChip hch _).emitPort .a).emitPort .b).emitPort .c).upholds

theorem ppiWrBsr_upholds (c x n : BitVec 3) (b : BitVec 1) (s : State) :
    Completes (Upholds s) (execPpiWrBsr c x n b s) := by
  unfold execPpiWrBsr
  split
  · exact upholds_oorWrite s
  · next ch hch => exact .next ((emitted_setChip hch _).emitPort .c).upholds

/-! ### All an operation can answer (R97, R340, R348) -/

/-- The outcomes of operation `i` from `s`: a next state, or one of the two stops the spec names. -/
inductive Outcome (s : State) : Instr → Result → Prop
  | completes {i : Instr} {t : State} (h : Upholds s t) : Outcome s i (.next t)
  | malformed (name : TableName) : Outcome s .seqReset (.fault (.malformedROMData name))
  | tooManyChips {n : Byte} (h : 4 < n.toNat) :
      Outcome s (.ppiInit n) (.refused .chipCountAboveFour)

theorem seqReset_outcome (s : State) : Outcome s .seqReset (execSeqReset s) := by
  unfold execSeqReset
  split
  exacts [.malformed _, .completes (resetState_upholds s)]

theorem ppiInit_outcome (n : Byte) (s : State) : Outcome s (.ppiInit n) (execPpiInit n s) := by
  unfold execPpiInit
  split_ifs with h
  exacts [.tooManyChips h, .completes (upholds_silent id rfl)]

/-- Every operation has one of the outcomes. -/
theorem exec_outcome (i : Instr) (s : State) : Outcome s i (exec i s) := by
  have goesOn {r : Result} (h : Completes (Upholds s) r) : Outcome s i r := by
    obtain ⟨t, rfl, ht⟩ := h
    exact .completes ht
  have read (h : ReadOp i) : Outcome s i (exec i s) :=
    goesOn ((exec_answers h s).mono fun _ => upholds_of_answered)
  cases i with
  | seqReset => exact seqReset_outcome s
  | seqFrame fullRefresh => exact .completes (renderFrame_upholds _ s)
  | seqCollOnly => exact .completes (roadPass_upholds _ s)
  | seqScrollComp => exact .completes (scrollComp_upholds s)
  | ppiInit n => exact ppiInit_outcome n s
  | tileRender L => exact .completes (tileRender_upholds _ s)
  | sprRefresh S =>
    exact goesOn (.ite (.next (spriteRefresh_upholds _ s)) (.ite (.next (spriteRefresh_upholds _ s))
      (.next (Upholds.refl s))))
  | sprComposite0 => exact .completes (composite0_upholds s)
  | sprComposite1 => exact .completes (composite1_upholds s)
  | roadParams => exact .completes (roadParams_upholds s)
  | roadLine minimal y => exact .completes (roadLine_upholds _ _ s)
  | palBuild => exact .completes (upholds_silent id rfl)
  | palCtBuild g => exact goesOn (palCtBuild_upholds g s)
  | nvExport => exact .completes (upholds_emit id rfl (by simp))
  | nvImport => exact goesOn (nvImport_upholds s)
  | ppiRdA c => exact read (.ppiA c)
  | ppiRdB c => exact read (.ppiB c)
  | ppiRdC c => exact read (.ppiC c)
  | ppiRdCtrl c => exact read (.ppiCtrl c)
  | ppiWrA c d => exact goesOn (writePort_upholds c .a d s)
  | ppiWrB c d => exact goesOn (writePort_upholds c .b d s)
  | ppiWrC c d => exact goesOn (writePort_upholds c .c d s)
  | ppiWrMode c ga da dcu gb db dcl => exact goesOn (ppiWrMode_upholds c ga da dcu gb db dcl s)
  | ppiWrBsr c x n b => exact goesOn (ppiWrBsr_upholds c x n b s)
  | protRd13 => exact read .prot13
  | protWr13 d => exact .completes (upholds_silent id rfl)
  | protRd o => exact read (.prot o)
  | protWr o d => exact goesOn (protWr_upholds o d s)
  | sndLatchRd n => exact read (.sndLatch n)
  | sndLatchWr n d => exact goesOn (.ite (completes_silent id rfl) (completes_silent id rfl))
  | sndSpeechResetWr level => exact .completes (speechLine_upholds rfl _ _)
  | sndSpeechStartWr level => exact .completes (speechLine_upholds rfl _ _)
  | sndSpeechVcuWr level => exact .completes (speechLine_upholds rfl _ _)
  | sndSpeechDataWr d => exact .completes (speechLine_upholds rfl _ _)
  | sndCpuResetWr d => exact goesOn (sndCpuResetWr_upholds d s)
  | vramRd L n => exact read (.vram L n)
  | vramWr L n d => exact goesOn (vramWr_upholds L n d s)
  | sprRamRd S n => exact read (.sprRam S n)
  | sprRamWr S n d => exact goesOn (sprRamWr_upholds S n d s)
  | sprCtrlRd S r => exact read (.sprCtrl S r)
  | sprCtrlWr S r d => exact goesOn (sprCtrlWr_upholds S r d s)
  | roadCollRd => exact read .roadColl
  | roadCollClr => exact .completes (upholds_silent id rfl)
  | roadRegRd k => exact read (.roadReg k)
  | roadRegWr k d => exact goesOn (roadRegWr_upholds k d s)
  | roadSprRd n => exact read (.roadSpr n)
  | roadSprWr n d => exact goesOn (roadSprWr_upholds n d s)
  | ctlPalbankRd => exact read .palbank
  | ctlPalbankWr d => exact goesOn (palbankWr_upholds d s)
  | ctlScrollRd n => exact read (.scroll n)
  | ctlScrollWr n d => exact goesOn (scrollWr_upholds n d s)
  | nvRd n => exact read (.nv n)
  | nvWr n d => exact goesOn (nvWr_upholds n d s)
  | inpRd n => exact read (.inp n)
  | busOor unit w =>
    exact goesOn (.ite ((answers_oorRead s).mono fun _ => upholds_of_answered) (upholds_oorWrite s))

/-- Settles O56: the two stops among the outcomes are the ones `admitted` names. -/
theorem onlyAdmittedStops : Obligations.OnlyAdmittedStops := by
  intro i s
  have hout := exec_outcome i s
  generalize exec i s = r at hout ⊢
  cases hout with
  | completes _ => exact trivial
  | malformed _ => exact rfl
  | tooManyChips h => exact ⟨_, rfl, h, rfl⟩

/-- A step upholds what its operation does: taking a request touches no memory, chip or event. -/
theorem step_upholds {s t : State} (hstep : step s = .next t) : Upholds s t := by
  obtain ⟨_, rfl⟩ | ⟨r, rest, _, ⟨_, rfl⟩ | ⟨tw, _, hexec⟩⟩ := step_next hstep
  · exact Upholds.refl _
  · exact upholds_silent id rfl
  · have hout := exec_outcome (decode tw) (takeRequest s r rest)
    rw [hexec] at hout
    generalize decode tw = i at hout
    cases hout with
    | completes h => exact ⟨h.canonical, h.callbacks⟩

/-- Settles O54: every operation that completes keeps the canonical form. -/
theorem stepKeepsCanonicalForm : Obligations.StepKeepsCanonicalForm := fun _ _ hs hstep =>
  (step_upholds hstep).canonical hs

/-- Settles O13: no operation but a write of a PPI chip calls a port-write callback, and each of those hands
on the chip's latch with its input bits set. -/
theorem callbacksSeeOnesOnInputs : Obligations.CallbacksSeeOnesOnInputs := fun _ _ hstep =>
  (step_upholds hstep).callbacks

end Sys2Proof.Proofs
end

section
/-!
PROOFS. How a request reaches its operation (R73 to R76, R88, R120), the protection mode latch (R173, R174)
and the NVRAM (R80, R87).
-/

namespace Sys2Proof.Proofs

open Sys2Proof Sys2Proof.Machine

/-! ### Requests (R75, R88) -/

section Requests

variable {s : State} {r : Request} {rest : List Request}

/-- A request that reaches the block runs the operation of its word. -/
theorem step_of_requestWord (hp : s.pending = r :: rest) {tw : TW}
    (hw : requestWord s.cfg r.what = some tw) :
    step s = exec (decode tw) (takeRequest s r rest) := by
  simp only [step, hp, hw]

/-- A request that does not reach the block is taken and changes nothing else (R75). -/
theorem step_of_plainRam (hp : s.pending = r :: rest) (hw : requestWord s.cfg r.what = none) :
    step s = .next (takeRequest s r rest) := by
  simp only [step, hp, hw]

variable {agent : Agent} {a : BusAddress} {write : Bool} {d : Byte}

theorem step_of_target (hp : s.pending = r :: rest) (hr : r.what = .access agent a write d)
    {u : BitVec 4} {inst : BitVec 3} {sel : BitVec 16}
    (ht : busTarget s.cfg agent a = some (u, inst, sel)) :
    step s = exec (decode (packTW u (if write then 1 else 0) inst sel d)) (takeRequest s r rest) := by
  have hbit : BitVec.ofBool write = if write then 1 else 0 := by cases write <;> rfl
  rw [← hbit]
  exact step_of_requestWord hp (by rw [hr, requestWord, ht])

theorem step_of_noTarget (hp : s.pending = r :: rest) (hr : r.what = .access agent a write d)
    (ht : busTarget s.cfg agent a = none) : step s = .next (takeRequest s r rest) :=
  step_of_plainRam hp (by rw [hr, requestWord, ht])

end Requests

/-! ### The board map (R73, R76, R120) -/

/-- A search by address finds the entry before which no entry has the address. -/
theorem find?_address_first {α : Type} {f : α → BusAddress} {l pre post : List α} {e : α}
    {a : BusAddress} (hl : l = pre ++ e :: post) (hpre : ∀ x ∈ pre, f x ≠ a) (he : f e = a) :
    (l.find? fun x => f x = a) = some e :=
  List.find?_eq_some_iff_append.2 ⟨by simpa using he, pre, post, hl, by simpa using hpre⟩

theorem find?_address_none {α : Type} {f : α → BusAddress} {l : List α} {a : BusAddress}
    (h : ∀ x ∈ l, f x ≠ a) : (l.find? fun x => f x = a) = none :=
  List.find?_eq_none.2 (by simpa using h)

theorem busTarget_mainCpu_mapped {c : Config} {pre post : List BusEntry} {e : BusEntry} {a : BusAddress}
    (hl : c.busmap = pre ++ e :: post) (hpre : ∀ x ∈ pre, x.address ≠ a) (he : e.address = a) :
    busTarget c .mainCpu a = some (e.unit, e.inst, e.sel) := by
  simp only [busTarget, find?_address_first hl hpre he]

theorem busTarget_mainCpu_unmapped {c : Config} {a : BusAddress} (h : ∀ x ∈ c.busmap, x.address ≠ a) :
    busTarget c .mainCpu a = protTarget c a := by
  simp only [busTarget, find?_address_none h]

theorem busTarget_soundCpu_mapped {c : Config} {pre post : List SoundBusEntry} {e : SoundBusEntry}
    {a : BusAddress} (hl : c.soundBus = pre ++ e :: post) (hpre : ∀ x ∈ pre, x.address ≠ a)
    (he : e.address = a) : busTarget c .soundCpu a = some (3, e.latch.setWidth 3, 0) := by
  simp only [busTarget, find?_address_first hl hpre he, Option.map_some]

theorem busTarget_soundCpu_unmapped {c : Config} {a : BusAddress}
    (h : ∀ x ∈ c.soundBus, x.address ≠ a) : busTarget c .soundCpu a = none := by
  simp only [busTarget, find?_address_none h, Option.map_none]

/-- Every target of the sound CPU is a latch (R73). -/
theorem busTarget_soundCpu_latch {c : Config} {a : BusAddress} {x : BitVec 4 × BitVec 3 × BitVec 16}
    (h : busTarget c .soundCpu a = some x) : ∃ latch : BitVec 1, x = (3, latch.setWidth 3, 0) := by
  obtain ⟨e, _, rfl⟩ := Option.map_eq_some_iff.1 h
  exact ⟨e.latch, rfl⟩

/-- The word of a latch access decodes to the access of that latch (R106). -/
theorem decode_latchWord (write : Bool) (latch : BitVec 1) (d : Byte) :
    decode (packTW 3 (if write then 1 else 0) (latch.setWidth 3) 0 d) =
      if write then .sndLatchWr latch d else .sndLatchRd latch := by
  have hbits : (latch.setWidth 3).extractLsb' 1 2 = 0 ∧ (latch.setWidth 3).extractLsb' 0 1 = latch := by
    revert latch
    decide
  obtain ⟨hhigh, hlow⟩ := hbits
  rw [decode_packTW]
  cases write <;> simp [decodeFields, decodeSnd, hhigh, hlow]

/-- Settles O4: the first request gives the word, by itself or through the map; the search of a map stops at
the first entry with the address, that of the protection ports at the lowest offset. -/
theorem stepRunsTheDecodedOperation : Obligations.StepRunsTheDecodedOperation := by
  intro s r rest hp s'
  refine ⟨?word, ?access, ?mainCpu, ?soundCpu⟩
  case word =>
    rintro tw i hr rfl
    exact step_of_requestWord hp (by rw [hr, requestWord])
  case access =>
    intro agent a write d hr
    refine ⟨fun u inst sel => step_of_target hp hr, step_of_noTarget hp hr, ?_⟩
    rintro rfl
    cases ht : busTarget s.cfg .soundCpu a with
    | none => exact .inl (step_of_noTarget hp hr ht)
    | some x =>
      obtain ⟨latch, rfl⟩ := busTarget_soundCpu_latch ht
      refine .inr ⟨latch, ?_⟩
      rw [← decode_latchWord]
      exact step_of_target hp hr ht
  case mainCpu =>
    intro a write d hr
    refine ⟨fun pre e post hl hpre he => step_of_target hp hr (busTarget_mainCpu_mapped hl hpre he),
      fun hmap => ?_⟩
    have hports := busTarget_mainCpu_unmapped hmap
    constructor
    · rintro n rfl hlowest
      exact step_of_target hp hr (hports.trans (protTarget_lowest s.cfg n hlowest))
    · intro hnone
      exact step_of_noTarget hp hr (hports.trans (protTarget_eq_none hnone))
  case soundCpu =>
    intro a write d hr
    constructor
    · intro pre e post hl hpre he
      rw [← decode_latchWord]
      exact step_of_target hp hr (busTarget_soundCpu_mapped hl hpre he)
    · exact fun hmap => step_of_noTarget hp hr (busTarget_soundCpu_unmapped hmap)

/-! ### The mode latch (R173, R174) -/

theorem exec_protRd13_latched {s : State} {m : Byte} (h : s.modeSelector = some m) :
    exec .protRd13 s = .next (s.ret m) := by
  show execProtRd13 s = _
  simp only [execProtRd13, h]

theorem exec_protRd13_fixed {s : State} {v : Byte} (h : s.modeSelector = none)
    (hv : s.cfg.protUnsetRead13 = some v) : exec .protRd13 s = .next (s.ret v) := by
  show execProtRd13 s = _
  simp only [execProtRd13, h, hv]

/-- The byte no board fixes hangs on the number of the last reset alone (R82). -/
theorem exec_protRd13_free {s : State} (h : s.modeSelector = none) (hv : s.cfg.protUnsetRead13 = none) :
    exec .protRd13 s = .next (s.ret (Config.freeUnsetRead13 s.resetAt)) := by
  show execProtRd13 s = _
  simp only [execProtRd13, h, hv]

/-- Settles O14: the read of the latch has three cases, and the byte of the third is the same whatever is
presented, seen or counted since the reset. -/
theorem protModeLatch : Obligations.ProtModeLatch := fun s =>
  ⟨fun _ => rfl, fun _ => exec_protRd13_latched, fun _ => exec_protRd13_fixed, fun hmode hboard =>
    ⟨Config.freeUnsetRead13 s.resetAt, fun _ _ _ _ => exec_protRd13_free hmode hboard⟩⟩

/-! ### The NVRAM (R80, R87) -/

theorem dump_getElem? (m : Memory) {size a : Nat} (h : a < size) :
    (m.dump size)[a]? = some (m.read a) := by
  rw [List.getElem?_eq_getElem (by simpa using h), Memory.dump_getElem m size a h]

theorem load_zero_read {m : Memory} (hm : m.wf) (bs : List Byte) {a : Nat} (h : a < bs.length) :
    bs[a]? = some ((m.load 0 bs).read a) := by
  have hread := m.load_read 0 a bs hm h
  rw [Nat.zero_add] at hread
  rw [hread, List.getElem?_eq_getElem h]

/-- A dump gives back what was loaded. -/
theorem dump_load {m : Memory} (hm : m.wf) (bs : List Byte) : (m.load 0 bs).dump bs.length = bs := by
  refine List.ext_getElem? fun a => ?_
  by_cases h : a < bs.length
  · rw [dump_getElem? _ h, load_zero_read hm bs h]
  · rw [List.getElem?_eq_none (by simpa using h), List.getElem?_eq_none (by simpa using h)]

/-- A blob of exactly the region's size is loaded whole (R87). -/
theorem importNvram_exact (clock : Nat) (blob : List Byte) :
    importNvram blob.length clock blob = (Memory.unwritten .zero .nvram).load 0 blob := by
  rw [importNvram, if_pos le_rfl, List.take_length]

theorem memory_read_write {m : Memory} (hm : m.wf) (n a : Nat) (v : Byte) :
    (m.write n v).read a = if a = n then v else m.read a := by
  split_ifs with h
  · rw [h, Memory.read_write_same m n v hm]
  · exact Memory.read_write_ne m n a v h

/-- Settles O52: in range the operations are the memory's own; NV.EXPORT hands out a dump, and NV.IMPORT of
a blob of the region's size loads it. -/
theorem nvram : Obligations.Nvram := by
  intro s n d hwf
  refine ⟨fun hin => ⟨if_pos hin, _, if_pos hin, fun a => memory_read_write hwf _ a d⟩,
    fun hout => ⟨if_neg (by omega), if_neg (by omega)⟩,
    ⟨_, s.nvram.dump_length _, fun a ha => dump_getElem? _ ha, rfl⟩, fun hlen => ?_⟩
  have hblank := Memory.unwritten_wf .zero .nvram
  refine ⟨(Memory.unwritten .zero .nvram).load 0 s.inputs.blob, ?_, fun a ha => ?_, ?_⟩
  · show execNvImport s = _
    rw [execNvImport, ← hlen, importNvram_exact]
  · exact load_zero_read hblank _ (by omega)
  · show execNvExport _ = _
    rw [execNvExport, ← hlen, dump_load hblank]
    rfl

end Sys2Proof.Proofs
end

section
/-!
PROOFS. Decoding and encoding (R100 to R112, R130).  A packed word decodes by its fields, so the round trip
goes unit by unit over the parts of a field.  The first row of the opcode table is read off field by field
too: for a given unit and direction the masks of the table's rows are the tests of that unit's decoder.
-/

namespace Sys2Proof.Proofs

open Sys2Proof Sys2Proof.Machine

/-! ### Words by their fields (R100) -/

theorem append_eq_append_iff {k n : Nat} {x x' : BitVec k} {y y' : BitVec n} :
    x ++ y = x' ++ y' ↔ x = x' ∧ y = y' := by
  refine ⟨fun h => ⟨?_, ?_⟩, by rintro ⟨rfl, rfl⟩; rfl⟩
  · simpa only [extract_append_high] using congrArg (BitVec.extractLsb' n k) h
  · simpa only [extract_append_low] using congrArg (BitVec.extractLsb' 0 n) h

theorem packTW_eq_packTW_iff {u u' : BitVec 4} {w w' : BitVec 1} {i i' : BitVec 3}
    {s s' : BitVec 16} {d d' : Byte} :
    packTW u w i s d = packTW u' w' i' s' d' ↔ u = u' ∧ w = w' ∧ i = i' ∧ s = s' ∧ d = d' := by
  rw [packTW, packTW, append_eq_append_iff (k := 24), append_eq_append_iff (k := 8),
    append_eq_append_iff (k := 5), append_eq_append_iff (k := 4), and_assoc, and_assoc, and_assoc]

theorem packTW_fields (tw : TW) :
    packTW (unitOf tw) (wOf tw) (instOf tw) (selOf tw) (dataOf tw) = tw := by
  rw [packTW, unitOf, wOf, BitVec.extractLsb'_append_extractLsb'_eq_extractLsb' (by rfl), instOf,
    BitVec.extractLsb'_append_extractLsb'_eq_extractLsb' (by rfl), selOf,
    BitVec.extractLsb'_append_extractLsb'_eq_extractLsb' (by rfl), dataOf,
    BitVec.extractLsb'_append_extractLsb'_eq_extractLsb' (by rfl)]
  exact BitVec.extractLsb'_eq_self

/-! ### Reserved units (R130) -/

theorem unit_ne_of_reserved : ∀ u : BitVec 4, 10 ≤ u.toNat →
    u ≠ 0 ∧ u ≠ 1 ∧ u ≠ 2 ∧ u ≠ 3 ∧ u ≠ 4 ∧ u ≠ 5 ∧ u ≠ 6 ∧ u ≠ 7 ∧ u ≠ 8 ∧ u ≠ 9 := by
  decide

theorem decodeFields_reserved {u : BitVec 4} (h : 10 ≤ u.toNat) (w : BitVec 1) (i : BitVec 3)
    (s : BitVec 16) (d : Byte) : decodeFields u w i s d = .busOor u w := by
  obtain ⟨h0, h1, h2, h3, h4, h5, h6, h7, h8, h9⟩ := unit_ne_of_reserved u h
  rw [decodeFields, if_neg h0, if_neg h1, if_neg h2, if_neg h3, if_neg h4, if_neg h5, if_neg h6,
    if_neg h7, if_neg h8, if_neg h9]

/-- Settles O53: the operation answers by its direction bit, and the unit decoders stop at 9. -/
theorem busOutOfRange : Obligations.BusOutOfRange :=
  ⟨fun _ _ => ⟨rfl, rfl⟩, fun _ h => decodeFields_reserved h _ _ _ _⟩

/-! ### Operands inside a field -/

/-- A data byte whose bit 0 is the operand. -/
theorem levelByte_bit (b : BitVec 1) : BitVec.extractLsb' (n := 8) 0 1 (0#7 ++ b) = b :=
  extract_append_low _ _

/-- The `inst` field of a word where its bit 0 is the operand. -/
theorem instBit_parts (b : BitVec 1) :
    BitVec.extractLsb' (n := 3) 1 2 (0#2 ++ b) = 0 ∧ BitVec.extractLsb' (n := 3) 0 1 (0#2 ++ b) = b :=
  ⟨extract_append_high _ _, extract_append_low _ _⟩

/-- A protection offset in the select; only offset 13 gives the select 13. -/
theorem protSel_parts (o : BitVec 4) :
    (0#12 ++ o = 13#16 ↔ o = 13) ∧ BitVec.extractLsb' (n := 16) 4 12 (0#12 ++ o) = 0 ∧
      BitVec.extractLsb' (n := 16) 0 4 (0#12 ++ o) = o :=
  ⟨append_eq_append_iff (x' := 0#12) (y' := 13#4) |>.trans (and_iff_right rfl),
    extract_append_high _ _, extract_append_low _ _⟩

/-- A road register number in the select; only register 6 gives the select 6. -/
theorem roadRegSel_parts (k : BitVec 3) :
    (0#13 ++ k = 6#16 ↔ k = 6) ∧ BitVec.extractLsb' (n := 16) 3 13 (0#13 ++ k) = 0 ∧
      BitVec.extractLsb' (n := 16) 0 3 (0#13 ++ k) = k :=
  ⟨append_eq_append_iff (x' := 0#13) (y' := 6#3) |>.trans (and_iff_right rfl),
    extract_append_high _ _, extract_append_low _ _⟩

/-- A road sprite address in the select, which is no register number. -/
theorem roadSprSel_parts (n : BitVec 12) :
    1#4 ++ n ≠ 6#16 ∧ BitVec.extractLsb' (n := 16) 3 13 (1#4 ++ n) ≠ 0 ∧
      BitVec.extractLsb' (n := 16) 12 4 (1#4 ++ n) = 1 ∧
      BitVec.extractLsb' (n := 16) 0 12 (1#4 ++ n) = n := by
  refine ⟨fun h => ?_, fun h => ?_, extract_append_high _ _, extract_append_low _ _⟩
  · exact absurd (append_eq_append_iff (x' := 0#4) (y' := 6#12) |>.1 h).1 (by decide)
  · have hupper : BitVec.extractLsb' (n := 16) 3 13 (1#4 ++ n) = 1#4 ++ n.extractLsb' 3 9 :=
      BitVec.extractLsb'_append_eq_ite.trans rfl
    exact absurd (append_eq_append_iff (x' := 0#4) (y' := 0#9) |>.1 (hupper ▸ h)).1 (by decide)

/-- A scroll address in the select, which is not the palette bank. -/
theorem scrollSel_parts (i : Byte) :
    1#8 ++ i ≠ 0#16 ∧ BitVec.extractLsb' (n := 16) 8 8 (1#8 ++ i) = 1 ∧
      BitVec.extractLsb' (n := 16) 0 8 (1#8 ++ i) = i :=
  ⟨fun h => absurd (append_eq_append_iff (x' := 0#8) (y' := 0#8) |>.1 h).1 (by decide),
    extract_append_high _ _, extract_append_low _ _⟩

/-- A sprite address in the select under the bit that tells RAM from control registers. -/
theorem sprSel_parts (b : BitVec 1) (n : BitVec 15) :
    BitVec.extractLsb' (n := 16) 15 1 (b ++ n) = b ∧ BitVec.extractLsb' (n := 16) 0 15 (b ++ n) = n :=
  ⟨extract_append_high _ _, extract_append_low _ _⟩

/-- The control byte of a mode word (R116). -/
theorem modeByte_parts (ga : BitVec 2) (da dcu gb db dcl : BitVec 1) :
    let byte : Byte := 1#1 ++ ga ++ da ++ dcu ++ gb ++ db ++ dcl
    byte.extractLsb' 7 1 = 1 ∧ byte.extractLsb' 5 2 = ga ∧ byte.extractLsb' 4 1 = da ∧
      byte.extractLsb' 3 1 = dcu ∧ byte.extractLsb' 2 1 = gb ∧ byte.extractLsb' 1 1 = db ∧
      byte.extractLsb' 0 1 = dcl := by
  revert ga da dcu gb db dcl
  decide

/-- The control byte of a bit set or reset word (R117). -/
theorem bsrByte_parts (x n : BitVec 3) (v : BitVec 1) :
    let byte : Byte := 0#1 ++ x ++ n ++ v
    byte.extractLsb' 7 1 = 0 ∧ byte.extractLsb' 4 3 = x ∧ byte.extractLsb' 1 3 = n ∧
      byte.extractLsb' 0 1 = v := by
  revert x n v
  decide

/-! ### Decoding a written operand, in either direction -/

theorem decodeSeq_roadLine (minimal : BitVec 1) (y : Byte) :
    decodeSeq 1 (0#2 ++ minimal) 0x0601 y = .roadLine minimal y := by
  simp [decodeSeq, instBit_parts]

theorem decodePpi_mode (c : BitVec 3) (ga : BitVec 2) (da dcu gb db dcl : BitVec 1) :
    decodePpi 1 c 3 (1#1 ++ ga ++ da ++ dcu ++ gb ++ db ++ dcl) = .ppiWrMode c ga da dcu gb db dcl := by
  obtain ⟨hmode, hga, hda, hdcu, hgb, hdb, hdcl⟩ := modeByte_parts ga da dcu gb db dcl
  simp [decodePpi, hmode, hga, hda, hdcu, hgb, hdb, hdcl]

theorem decodePpi_bsr (c x n : BitVec 3) (v : BitVec 1) :
    decodePpi 1 c 3 (0#1 ++ x ++ n ++ v) = .ppiWrBsr c x n v := by
  obtain ⟨hmode, hx, hn, hv⟩ := bsrByte_parts x n v
  simp [decodePpi, hmode, hx, hn, hv]

theorem decodeProt_offset (w : BitVec 1) {o : BitVec 4} (h : o ≠ 13) (d : Byte) :
    decodeProt w 0 (0#12 ++ o) d = if w = 0 then .protRd o else .protWr o d := by
  obtain ⟨h13, hhigh, hlow⟩ := protSel_parts o
  rw [decodeProt, if_neg (h <| h13.1 ·.2), if_pos ⟨rfl, hhigh⟩, hlow]

theorem decodeSnd_latch (w b : BitVec 1) (d : Byte) :
    decodeSnd w (0#2 ++ b) 0 d = if w = 0 then .sndLatchRd b else .sndLatchWr b d := by
  simp [decodeSnd, instBit_parts]

theorem decodeSpr_ram (w S : BitVec 1) (n : BitVec 15) (d : Byte) :
    decodeSpr w (0#2 ++ S) (0#1 ++ n) d = if w = 0 then .sprRamRd S n else .sprRamWr S n d := by
  simp [decodeSpr, instBit_parts, sprSel_parts]

theorem decodeSpr_ctrl (w S : BitVec 1) (r : BitVec 15) (d : Byte) :
    decodeSpr w (0#2 ++ S) (1#1 ++ r) d = if w = 0 then .sprCtrlRd S r else .sprCtrlWr S r d := by
  simp [decodeSpr, instBit_parts, sprSel_parts]

theorem decodeRoad_reg (w : BitVec 1) {k : BitVec 3} (h : k ≠ 6) (d : Byte) :
    decodeRoad w 0 (0#13 ++ k) d = if w = 0 then .roadRegRd k else .roadRegWr k d := by
  obtain ⟨h6, hhigh, hlow⟩ := roadRegSel_parts k
  rw [decodeRoad, if_neg (h <| h6.1 ·.2), if_pos ⟨rfl, hhigh⟩, hlow]

theorem decodeRoad_spr (w : BitVec 1) (n : BitVec 12) (d : Byte) :
    decodeRoad w 0 (1#4 ++ n) d = if w = 0 then .roadSprRd n else .roadSprWr n d := by
  obtain ⟨h6, hreg, hpage, hlow⟩ := roadSprSel_parts n
  rw [decodeRoad, if_neg (h6 ·.2), if_neg (hreg ·.2), if_pos ⟨rfl, hpage⟩, hlow]

theorem decodeCtl_scroll (w : BitVec 1) (i d : Byte) :
    decodeCtl w 0 (1#8 ++ i) d = if w = 0 then .ctlScrollRd i else .ctlScrollWr i d := by
  obtain ⟨hbank, hpage, hlow⟩ := scrollSel_parts i
  rw [decodeCtl, if_neg (hbank ·.2), if_pos ⟨rfl, hpage⟩, hlow]

/-- The word chosen for BUS.OOR lies in no other row, except in unit 4, whose rows take every word. -/
theorem decode_oorWord : ∀ (unit : BitVec 4) (w : BitVec 1), unit ≠ 4 →
    decode (packTW unit w 7 0xFFFF 0) = .busOor unit w := by
  decide

/-- Settles O1: the fields of the word are those the encoder wrote, and the unit's decoder reads each operand
back from its field. -/
theorem decodeEncode : Obligations.DecodeEncode := by
  intro i hwf
  cases i with
  | seqReset | seqCollOnly | seqScrollComp | sprComposite0 | sprComposite1 | roadParams | palBuild
  | nvExport | nvImport | protRd13 | roadCollRd | roadCollClr | ctlPalbankRd => exact decode_packTW ..
  | ppiInit x | tileRender x | sprRefresh x | palCtBuild x | ppiRdA x | ppiRdB x | ppiRdC x
  | ppiRdCtrl x | protWr13 x | sndSpeechDataWr x | sndCpuResetWr x | ctlPalbankWr x | nvRd x
  | inpRd x => exact decode_packTW ..
  | ppiWrA x d | ppiWrB x d | ppiWrC x d | vramRd x d | nvWr x d => exact decode_packTW ..
  | vramWr L n d => exact decode_packTW ..
  | seqFrame full => exact (decode_packTW ..).trans (congrArg Instr.seqFrame (levelByte_bit full))
  | sndSpeechResetWr b =>
    exact (decode_packTW ..).trans (congrArg Instr.sndSpeechResetWr (levelByte_bit b))
  | sndSpeechStartWr b =>
    exact (decode_packTW ..).trans (congrArg Instr.sndSpeechStartWr (levelByte_bit b))
  | sndSpeechVcuWr b =>
    exact (decode_packTW ..).trans (congrArg Instr.sndSpeechVcuWr (levelByte_bit b))
  | roadLine minimal y => exact (decode_packTW ..).trans (decodeSeq_roadLine minimal y)
  | ppiWrMode c ga da dcu gb db dcl =>
    exact (decode_packTW ..).trans (decodePpi_mode c ga da dcu gb db dcl)
  | ppiWrBsr c x n v => exact (decode_packTW ..).trans (decodePpi_bsr c x n v)
  | protRd o => exact (decode_packTW ..).trans (decodeProt_offset 0 (bne_iff_ne.1 hwf) 0)
  | protWr o d => exact (decode_packTW ..).trans (decodeProt_offset 1 (bne_iff_ne.1 hwf) d)
  | sndLatchRd b => exact (decode_packTW ..).trans (decodeSnd_latch 0 b 0)
  | sndLatchWr b d => exact (decode_packTW ..).trans (decodeSnd_latch 1 b d)
  | sprRamRd S n => exact (decode_packTW ..).trans (decodeSpr_ram 0 S n 0)
  | sprRamWr S n d => exact (decode_packTW ..).trans (decodeSpr_ram 1 S n d)
  | sprCtrlRd S r => exact (decode_packTW ..).trans (decodeSpr_ctrl 0 S r 0)
  | sprCtrlWr S r d => exact (decode_packTW ..).trans (decodeSpr_ctrl 1 S r d)
  | roadRegRd k => exact (decode_packTW ..).trans (decodeRoad_reg 0 (bne_iff_ne.1 hwf) 0)
  | roadRegWr k d => exact (decode_packTW ..).trans (decodeRoad_reg 1 (bne_iff_ne.1 hwf) d)
  | roadSprRd n => exact (decode_packTW ..).trans (decodeRoad_spr 0 n 0)
  | roadSprWr n d => exact (decode_packTW ..).trans (decodeRoad_spr 1 n d)
  | ctlScrollRd i => exact (decode_packTW ..).trans (decodeCtl_scroll 0 i 0)
  | ctlScrollWr i d => exact (decode_packTW ..).trans (decodeCtl_scroll 1 i d)
  | busOor unit w => exact decode_oorWord unit w (bne_iff_ne.1 hwf)

/-- Settles O3: thirteen fixed words, so the decoder is evaluated on each. -/
theorem decodesWrittenOutWords : Obligations.DecodesWrittenOutWords := by
  unfold Obligations.DecodesWrittenOutWords
  decide

/-! ### The first row that takes a word (R102) -/

/-- The mnemonic of the first of `rows` that takes the word. -/
def firstMnemonic (rows : List OpcodeRow) (tw : TW) : Option String :=
  (rows.find? fun r => rowTakes r tw).map OpcodeRow.mnemonic

theorem firstMnemonic_eq_some_iff {rows : List OpcodeRow} {tw : TW} {name : String} :
    firstMnemonic rows tw = some name ↔
      ∃ r, (rows.find? fun r => rowTakes r tw) = some r ∧ r.mnemonic = name :=
  Option.map_eq_some_iff

/-- A row takes a word when it takes each field. -/
theorem rowTakes_packTW_iff (r : OpcodeRow) (u : BitVec 4) (w : BitVec 1) (i : BitVec 3)
    (s : BitVec 16) (d : Byte) :
    rowTakes r (packTW u w i s d) = true ↔
      u &&& unitOf r.mask = unitOf r.value ∧ w &&& wOf r.mask = wOf r.value ∧
      i &&& instOf r.mask = instOf r.value ∧ s &&& selOf r.mask = selOf r.value ∧
      d &&& dataOf r.mask = dataOf r.value := by
  rw [rowTakes, decide_eq_true_iff, ← packTW_eq_packTW_iff, ← Laws.packTW_and]
  simp only [packTW_fields]

section Rows

variable (u : BitVec 4) (w : BitVec 1) (i : BitVec 3) (s : BitVec 16) (d : Byte)

/-- The search through the table as a chain of tests on the fields, each of them on numerals once the row
is written out. -/
@[simp] theorem firstMnemonic_cons (name : String) (v m : TW) (rows : List OpcodeRow) :
    firstMnemonic (⟨name, v, m⟩ :: rows) (packTW u w i s d) =
      if u &&& m.extractLsb' 28 4 = v.extractLsb' 28 4 ∧
        w &&& m.extractLsb' 27 1 = v.extractLsb' 27 1 ∧
        i &&& m.extractLsb' 24 3 = v.extractLsb' 24 3 ∧
        s &&& m.extractLsb' 8 16 = v.extractLsb' 8 16 ∧
        d &&& m.extractLsb' 0 8 = v.extractLsb' 0 8
      then some name else firstMnemonic rows (packTW u w i s d) := by
  have htakes := rowTakes_packTW_iff ⟨name, v, m⟩ u w i s d
  simp only [unitOf, wOf, instOf, selOf, dataOf] at htakes
  simp only [firstMnemonic, List.find?_cons, ← htakes]
  split_ifs with h <;> simp [h]

/-! The masks of the table: a whole field, or its upper bits. -/

@[simp] theorem unit_and_F : u &&& 0xF#4 = u := BitVec.and_allOnes
@[simp] theorem inst_and_7 : i &&& 7#3 = i := BitVec.and_allOnes
@[simp] theorem sel_and_FFFF : s &&& 0xFFFF#16 = s := BitVec.and_allOnes

/-- A mask of the upper `k` bits tests the upper `k` bits. -/
theorem and_highMask_eq_iff {k n : Nat} (x : BitVec (k + n)) (v : BitVec k) :
    x &&& (BitVec.allOnes k ++ 0#n) = v ++ 0#n ↔ x.extractLsb' n k = v := by
  conv_lhs => rw [← x.extractLsb'_append_extractLsb', Laws.append_and, append_eq_append_iff]
  simp

theorem inst_and_6 : i &&& 6#3 = 0#3 ↔ i.extractLsb' 1 2 = 0#2 :=
  and_highMask_eq_iff (k := 2) (n := 1) i 0

theorem sel_and_FFF0 : s &&& 0xFFF0#16 = 0#16 ↔ s.extractLsb' 4 12 = 0#12 :=
  and_highMask_eq_iff (k := 12) (n := 4) s 0

theorem sel_and_FFF8 : s &&& 0xFFF8#16 = 0#16 ↔ s.extractLsb' 3 13 = 0#13 :=
  and_highMask_eq_iff (k := 13) (n := 3) s 0

theorem sel_and_F000 : s &&& 0xF000#16 = 0x1000#16 ↔ s.extractLsb' 12 4 = 1#4 :=
  and_highMask_eq_iff (k := 4) (n := 12) s 1

theorem sel_and_FF00 : s &&& 0xFF00#16 = 0x0100#16 ↔ s.extractLsb' 8 8 = 1#8 :=
  and_highMask_eq_iff (k := 8) (n := 8) s 1

theorem sel_and_8000 : (s &&& 0x8000#16 = 0#16 ↔ s.extractLsb' 15 1 = 0#1) ∧
    (s &&& 0x8000#16 = 0x8000#16 ↔ s.extractLsb' 15 1 = 1#1) :=
  ⟨and_highMask_eq_iff (k := 1) (n := 15) s 0, and_highMask_eq_iff (k := 1) (n := 15) s 1⟩

theorem data_and_80 : (d &&& 0x80#8 = 0#8 ↔ d.extractLsb' 7 1 = 0#1) ∧
    (d &&& 0x80#8 = 0x80#8 ↔ d.extractLsb' 7 1 = 1#1) :=
  ⟨and_highMask_eq_iff (k := 1) (n := 7) d 0, and_highMask_eq_iff (k := 1) (n := 7) d 1⟩

/-! Unit by unit: once the direction is known, the chain of the table and that of the decoder are the same. -/

theorem firstMnemonic_seq :
    firstMnemonic opcodeTable (packTW 0 w i s d) = some (decodeSeq w i s d).mnemonic := by
  simp only [decodeSeq, apply_ite Instr.mnemonic, apply_ite some]
  rcases BitVec.eq_zero_or_eq_one w with rfl | rfl <;>
    simp [opcodeTable, opcodeRowsSeqPpi, opcodeRowsBus, Instr.mnemonic, inst_and_6, and_comm]

theorem firstMnemonic_ppi :
    firstMnemonic opcodeTable (packTW 1 w i s d) = some (decodePpi w i s d).mnemonic := by
  simp only [decodePpi, apply_ite Instr.mnemonic, apply_ite some]
  rcases BitVec.eq_zero_or_eq_one w with rfl | rfl
  · simp [opcodeTable, opcodeRowsSeqPpi, opcodeRowsBus, Instr.mnemonic]
  · rcases BitVec.eq_zero_or_eq_one (d.extractLsb' 7 1) with hmode | hmode <;>
      simp [opcodeTable, opcodeRowsSeqPpi, opcodeRowsBus, Instr.mnemonic, data_and_80, hmode]

theorem firstMnemonic_prot :
    firstMnemonic opcodeTable (packTW 2 w i s d) = some (decodeProt w i s d).mnemonic := by
  simp only [decodeProt, apply_ite Instr.mnemonic, apply_ite some]
  rcases BitVec.eq_zero_or_eq_one w with rfl | rfl <;>
    simp [opcodeTable, opcodeRowsSeqPpi, opcodeRowsBus, Instr.mnemonic, sel_and_FFF0]

theorem firstMnemonic_snd :
    firstMnemonic opcodeTable (packTW 3 w i s d) = some (decodeSnd w i s d).mnemonic := by
  simp only [decodeSnd, apply_ite Instr.mnemonic, apply_ite some]
  rcases BitVec.eq_zero_or_eq_one w with rfl | rfl <;>
    simp [opcodeTable, opcodeRowsSeqPpi, opcodeRowsBus, Instr.mnemonic, inst_and_6, and_comm]

theorem firstMnemonic_vram :
    firstMnemonic opcodeTable (packTW 4 w i s d) = some (decodeVram w i s d).mnemonic := by
  simp only [decodeVram, apply_ite Instr.mnemonic, apply_ite some]
  rcases BitVec.eq_zero_or_eq_one w with rfl | rfl <;>
    simp [opcodeTable, opcodeRowsSeqPpi, opcodeRowsBus, Instr.mnemonic]

theorem firstMnemonic_spr :
    firstMnemonic opcodeTable (packTW 5 w i s d) = some (decodeSpr w i s d).mnemonic := by
  simp only [decodeSpr, apply_ite Instr.mnemonic, apply_ite some]
  rcases BitVec.eq_zero_or_eq_one w with rfl | rfl <;>
    rcases BitVec.eq_zero_or_eq_one (s.extractLsb' 15 1) with hctrl | hctrl <;>
      simp [opcodeTable, opcodeRowsSeqPpi, opcodeRowsBus, Instr.mnemonic, inst_and_6, sel_and_8000,
        hctrl]

theorem firstMnemonic_road :
    firstMnemonic opcodeTable (packTW 6 w i s d) = some (decodeRoad w i s d).mnemonic := by
  simp only [decodeRoad, apply_ite Instr.mnemonic, apply_ite some]
  rcases BitVec.eq_zero_or_eq_one w with rfl | rfl <;>
    simp [opcodeTable, opcodeRowsSeqPpi, opcodeRowsBus, Instr.mnemonic, sel_and_FFF8, sel_and_F000]

theorem firstMnemonic_ctl :
    firstMnemonic opcodeTable (packTW 7 w i s d) = some (decodeCtl w i s d).mnemonic := by
  simp only [decodeCtl, apply_ite Instr.mnemonic, apply_ite some]
  rcases BitVec.eq_zero_or_eq_one w with rfl | rfl <;>
    simp [opcodeTable, opcodeRowsSeqPpi, opcodeRowsBus, Instr.mnemonic, sel_and_FF00]

theorem firstMnemonic_nv :
    firstMnemonic opcodeTable (packTW 8 w i s d) = some (decodeNv w i s d).mnemonic := by
  simp only [decodeNv, apply_ite Instr.mnemonic, apply_ite some]
  rcases BitVec.eq_zero_or_eq_one w with rfl | rfl <;>
    simp [opcodeTable, opcodeRowsSeqPpi, opcodeRowsBus, Instr.mnemonic]

theorem firstMnemonic_inp :
    firstMnemonic opcodeTable (packTW 9 w i s d) = some (decodeInp w i s).mnemonic := by
  simp only [decodeInp, apply_ite Instr.mnemonic, apply_ite some]
  rcases BitVec.eq_zero_or_eq_one w with rfl | rfl <;>
    simp [opcodeTable, opcodeRowsSeqPpi, opcodeRowsBus, Instr.mnemonic]

theorem firstMnemonic_reserved (h : 10 ≤ u.toNat) :
    firstMnemonic opcodeTable (packTW u w i s d) = some (decodeFields u w i s d).mnemonic := by
  obtain ⟨h0, h1, h2, h3, h4, h5, h6, h7, h8, h9⟩ := unit_ne_of_reserved u h
  rw [decodeFields_reserved h]
  simp_all [opcodeTable, opcodeRowsSeqPpi, opcodeRowsBus, Instr.mnemonic]

theorem unit_cases : ∀ u : BitVec 4, u = 0 ∨ u = 1 ∨ u = 2 ∨ u = 3 ∨ u = 4 ∨ u = 5 ∨ u = 6 ∨ u = 7 ∨
    u = 8 ∨ u = 9 ∨ 10 ≤ u.toNat := by
  decide

theorem firstMnemonic_decodeFields :
    firstMnemonic opcodeTable (packTW u w i s d) = some (decodeFields u w i s d).mnemonic := by
  rcases unit_cases u with rfl | rfl | rfl | rfl | rfl | rfl | rfl | rfl | rfl | rfl | hreserved
  · exact firstMnemonic_seq w i s d
  · exact firstMnemonic_ppi w i s d
  · exact firstMnemonic_prot w i s d
  · exact firstMnemonic_snd w i s d
  · exact firstMnemonic_vram w i s d
  · exact firstMnemonic_spr w i s d
  · exact firstMnemonic_road w i s d
  · exact firstMnemonic_ctl w i s d
  · exact firstMnemonic_nv w i s d
  · exact firstMnemonic_inp w i s d
  · exact firstMnemonic_reserved u w i s d hreserved

end Rows

/-- Settles O2: a word is packed from its fields, and the first row that takes a packed word is the decoder's,
whatever the unit. -/
theorem decodeFollowsTheOpcodeTable : Obligations.DecodeFollowsTheOpcodeTable := by
  intro tw
  have hfirst := firstMnemonic_decodeFields (unitOf tw) (wOf tw) (instOf tw) (selOf tw) (dataOf tw)
  rw [packTW_fields] at hfirst
  exact firstMnemonic_eq_some_iff.1 hfirst

end Sys2Proof.Proofs
end

section
/-!
PROOFS. What each operation of the PPI unit answers, on a chip that exists and on one that does not
(R140 to R153).
-/

namespace Sys2Proof.Proofs

open Sys2Proof Sys2Proof.Machine

/-! ### The byte a callback sees (R141) -/

theorem muxed_setLatch (ch : Chip) (p : Port) (d : Byte) :
    (ch.setLatch p d).muxed p = (d &&& ~~~ch.io p) ||| (0xFF &&& ch.io p) := by
  rw [Chip.muxed, Chip.setLatch_latch, Chip.setLatch_io]

/-- A zeroed latch shows the direction mask itself: 0 on outputs, 1 on inputs. -/
theorem muxed_of_latch_zero {ch : Chip} {p : Port} (h : ch.latch p = 0x00) :
    ch.muxed p = ch.io p := by
  have hones : (0xFF : Byte) &&& ch.io p = ch.io p := BitVec.allOnes_and
  rw [Chip.muxed, h, hones]
  simp

/-! ### One bit of port C's latch (R117, R152) -/

/-- The mask of BSR has bit `n` alone. -/
theorem oneBit_getLsbD (n : BitVec 3) (k : Nat) :
    (1#8 <<< n.toNat).getLsbD k = decide (k = n.toNat) := by
  have htwo : (1#8 <<< n.toNat).getLsbD k = (decide (n.toNat < 8) && decide (n.toNat = k)) :=
    BitVec.getLsbD_twoPow n.toNat k
  rw [htwo, decide_eq_true n.isLt, Bool.true_and, decide_eq_decide]
  exact eq_comm

theorem bitSetReset_getLsbD (latch : Byte) (n : BitVec 3) (b : BitVec 1) {k : Nat} (hk : k < 8) :
    (bitSetReset latch n b).getLsbD k = if k = n.toNat then b = 1 else latch.getLsbD k := by
  unfold bitSetReset
  by_cases hb : b = 1
  · rw [if_pos hb, eq_true hb, BitVec.getLsbD_or, oneBit_getLsbD n k]
    by_cases hkn : k = n.toNat <;> simp [hkn]
  · rw [if_neg hb, eq_false hb, BitVec.getLsbD_and, BitVec.getLsbD_not, oneBit_getLsbD n k]
    by_cases hkn : k = n.toNat <;> simp [hkn, hk]

/-! ### A chip that exists -/

section Present

variable {s : State} {c : BitVec 3} {ch : Chip} (h : s.chip? c = some ch)
include h

theorem readPort_output {p : Port} (hio : ch.io p = 0x00) :
    readPort c p s = .next { s with trace := s.trace ++ [.busReturn (ch.latch p)] } := by
  simp only [readPort, h]
  rw [if_pos hio, ret_eq]

theorem readPort_input {p : Port} (hio : ch.io p ≠ 0x00) :
    readPort c p s = .next { s with
      trace := s.trace ++ portAsked s c.toNat p ++ [.busReturn (portAnswer s c.toNat p)] } := by
  simp only [readPort, h]
  rw [if_neg hio, extRead_eq, ret_eq]

theorem execPpiRdC_of_chip :
    execPpiRdC c s = .next { s with
      trace := s.trace ++ portAsked s c.toNat .c ++
        [.busReturn ((ch.latchC &&& ~~~ch.ioC) ||| (portAnswer s c.toNat .c &&& ch.ioC))] } := by
  simp only [execPpiRdC, h]
  rw [extRead_eq, ret_eq]

theorem execPpiRdCtrl_of_chip :
    execPpiRdCtrl c s = .next { s with trace := s.trace ++ [.busReturn 0xFF] } := by
  simp only [execPpiRdCtrl, h]
  rw [ret_eq]

theorem writePort_of_chip (p : Port) (d : Byte) :
    writePort c p d s = .next { s with
      ppi := s.ppi.set c.toNat (ch.setLatch p d)
      trace := s.trace ++
        callbackEvents s c.toNat p ((d &&& ~~~ch.io p) ||| (0xFF &&& ch.io p)) } := by
  simp only [writePort, h]
  rw [emitPort_eq, muxed_setLatch]
  rfl

/-- The three callbacks of a mode-set come after the register updates, each with the port's new mask. -/
theorem execPpiWrMode_of_chip (ga : BitVec 2) (da dcu gb db dcl : BitVec 1) :
    execPpiWrMode c ga da dcu gb db dcl s = .next { s with
      ppi := s.ppi.set c.toNat
        (Chip.modeSet (modeSetByte ga da dcu gb db dcl) ga da dcu gb db dcl)
      trace := s.trace ++ callbackEvents s c.toNat .a (portMask da) ++
        callbackEvents s c.toNat .b (portMask db) ++
        callbackEvents s c.toNat .c (portCMask dcu dcl) } := by
  simp only [execPpiWrMode, h]
  rw [emitPort_eq, emitPort_eq, emitPort_eq, muxed_of_latch_zero (p := .a) rfl,
    muxed_of_latch_zero (p := .b) rfl, muxed_of_latch_zero (p := .c) rfl]
  rfl

theorem execPpiWrBsr_of_chip (x n : BitVec 3) (b : BitVec 1) :
    execPpiWrBsr c x n b s = .next { s with
      ppi := s.ppi.set c.toNat
        { ch with latchC := bitSetReset ch.latchC n b, control := bitSetResetByte x n b }
      trace := s.trace ++ callbackEvents s c.toNat .c
        ((bitSetReset ch.latchC n b &&& ~~~ch.ioC) ||| (0xFF &&& ch.ioC)) } := by
  simp only [execPpiWrBsr, h]
  rw [emitPort_eq]
  rfl

end Present

/-! ### A chip that does not exist (R142, R153) -/

section Absent

variable {s : State} {c : BitVec 3} (h : s.chip? c = none)
include h

theorem readPort_of_no_chip (p : Port) : readPort c p s = oorRead s := by
  simp only [readPort, h]

theorem writePort_of_no_chip (p : Port) (d : Byte) : writePort c p d s = oorWrite s := by
  simp only [writePort, h]

theorem execPpiRdC_of_no_chip : execPpiRdC c s = oorRead s := by
  simp only [execPpiRdC, h]

theorem execPpiRdCtrl_of_no_chip : execPpiRdCtrl c s = oorRead s := by
  simp only [execPpiRdCtrl, h]

theorem execPpiWrMode_of_no_chip (ga : BitVec 2) (da dcu gb db dcl : BitVec 1) :
    execPpiWrMode c ga da dcu gb db dcl s = oorWrite s := by
  simp only [execPpiWrMode, h]

theorem execPpiWrBsr_of_no_chip (x n : BitVec 3) (b : BitVec 1) :
    execPpiWrBsr c x n b s = oorWrite s := by
  simp only [execPpiWrBsr, h]

end Absent

/-! ### The obligations -/

/-- Settles O9: the new latch is `bitSetReset` of the old one, read bit by bit. -/
theorem ppiBitSetReset : Obligations.PpiBitSetReset := by
  intro s c ch x n b hlt hget
  have hch : s.chip? c = some ch := (chip?_eq_some s).2 ⟨hlt, hget⟩
  exact ⟨bitSetReset ch.latchC n b, fun k hk => bitSetReset_getLsbD ch.latchC n b hk,
    execPpiWrBsr_of_chip hch x n b⟩

/-- Settles O5: the one data write, at each of the three ports. -/
theorem ppiDataWrites : Obligations.PpiDataWrites := by
  intro s c d ch hlt hget
  have hch : s.chip? c = some ch := (chip?_eq_some s).2 ⟨hlt, hget⟩
  exact ⟨writePort_of_chip hch .a d, writePort_of_chip hch .b d, writePort_of_chip hch .c d⟩

/-- Settles O6: the one port read, at ports A and B in either direction. -/
theorem ppiReadsOfPortsAAndB : Obligations.PpiReadsOfPortsAAndB := by
  intro s c ch hlt hget
  have hch : s.chip? c = some ch := (chip?_eq_some s).2 ⟨hlt, hget⟩
  exact ⟨readPort_output (p := .a) hch, readPort_input (p := .a) hch,
    readPort_output (p := .b) hch, readPort_input (p := .b) hch⟩

/-- Settles O7: port C asks its callback whatever its mask; the control port looks at no field of the chip. -/
theorem ppiReadsOfPortCAndControl : Obligations.PpiReadsOfPortCAndControl := by
  intro s c ch hlt hget
  have hch : s.chip? c = some ch := (chip?_eq_some s).2 ⟨hlt, hget⟩
  exact ⟨execPpiRdC_of_chip hch, execPpiRdCtrl_of_chip hch⟩

/-- Settles O8: the zeroed latches make each callback see its port's new direction mask. -/
theorem ppiModeSet : Obligations.PpiModeSet := by
  intro s c ch ga da dcu gb db dcl hlt hget
  have hch : s.chip? c = some ch := (chip?_eq_some s).2 ⟨hlt, hget⟩
  exact execPpiWrMode_of_chip hch ga da dcu gb db dcl

/-- Settles O10: without a chip every operation is the out-of-range read or write. -/
theorem ppiOutOfRange : Obligations.PpiOutOfRange := by
  intro s c hge
  have hno : s.chip? c = none := chip?_out_of_range s hge
  refine ⟨?reads, ?dataWrites, execPpiWrMode_of_no_chip hno, execPpiWrBsr_of_no_chip hno⟩
  case reads =>
    simp only [List.forall_mem_cons, List.not_mem_nil, false_imp_iff, implies_true, and_true]
    exact ⟨readPort_of_no_chip hno .a, readPort_of_no_chip hno .b, execPpiRdC_of_no_chip hno,
      execPpiRdCtrl_of_no_chip hno⟩
  case dataWrites =>
    intro d
    simp only [List.forall_mem_cons, List.not_mem_nil, false_imp_iff, implies_true, and_true]
    exact ⟨writePort_of_no_chip hno .a d, writePort_of_no_chip hno .b d,
      writePort_of_no_chip hno .c d⟩

end Sys2Proof.Proofs
end

section
/-!
PROOFS. The protection table: the entry a lookup answers with, what each action answers, and the round trips
of a write and a read (R171 to R177, R182).
-/

namespace Sys2Proof.Proofs

open Sys2Proof Sys2Proof.Machine

/-! ### The lookups (R171, R177) -/

/-- A search whose test decides `P` finds the element before which `P` holds of none. -/
theorem find?_first_of_iff {α : Type} {p : α → Bool} {P : α → Prop} (hp : ∀ x, p x = true ↔ P x)
    {l pre post : List α} {e : α} (hl : l = pre ++ e :: post) (hpre : ∀ x ∈ pre, ¬P x) (he : P e) :
    l.find? p = some e :=
  List.find?_eq_some_iff_append.2 ⟨(hp e).2 he, pre, post, hl, by simpa [← hp] using hpre⟩

theorem find?_none_of_iff {α : Type} {p : α → Bool} {P : α → Prop} (hp : ∀ x, p x = true ↔ P x)
    {l : List α} (h : ∀ x ∈ l, ¬P x) : l.find? p = none :=
  List.find?_eq_none.2 fun x hx => (hp x).not.2 (h x hx)

section Lookup

variable {table pre post : List ProtEntry} {e : ProtEntry} {o : BitVec 4} {mode : Option Byte} {pc : Nat}

theorem lookupWrite_first (hl : table = pre ++ e :: post)
    (hpre : ∀ x ∈ pre, ¬appliesToWrite x o mode) (he : appliesToWrite e o mode) :
    lookupWrite table o mode = e.action := by
  simp only [lookupWrite, find?_first_of_iff (matchesWrite_iff · o mode) hl hpre he]

theorem lookupWrite_default (h : ∀ x ∈ table, ¬appliesToWrite x o mode) :
    lookupWrite table o mode = .scratch none := by
  simp only [lookupWrite, find?_none_of_iff (matchesWrite_iff · o mode) h]

theorem lookupRead_first (hl : table = pre ++ e :: post)
    (hpre : ∀ x ∈ pre, ¬appliesToRead x o mode pc) (he : appliesToRead e o mode pc) :
    lookupRead table o mode pc = e.action := by
  simp only [lookupRead, find?_first_of_iff (matchesRead_iff · o mode pc) hl hpre he]

theorem lookupRead_default (h : ∀ x ∈ table, ¬appliesToRead x o mode pc) :
    lookupRead table o mode pc = .scratch none := by
  simp only [lookupRead, find?_none_of_iff (matchesRead_iff · o mode pc) h]

end Lookup

/-! ### Main-CPU memory (R85, R86, R343) -/

theorem mainMemWrite_eq (s : State) (a : Nat) (d : Byte) :
    mainMemWrite s a d =
      { s with trace := s.trace ++ if s.cfg.hasMainMemWrite then [.mainMemWrite a d] else [] } := by
  unfold mainMemWrite
  split
  · rfl
  · rw [List.append_nil]

theorem mainMemRead_ret_eq (s : State) (a : Nat) :
    (mainMemRead s a).2.ret (mainMemRead s a).1 = { s with
      trace := s.trace ++
        if s.cfg.hasMainMemRead then [.mainMemRead a, .busReturn (s.answer 0)]
        else [.busReturn 0x00] } := by
  unfold mainMemRead
  split
  · simp [State.ret, State.emit]
  · rfl

/-! ### The scratch registers -/

theorem setRegister_register (s : State) (o o' : BitVec 4) (v : Byte) :
    (s.setRegister o v).register o' = if o' = o then v else s.register o' := by
  have hindex : o.toNat = o'.toNat ↔ o' = o := by rw [BitVec.toNat_inj, eq_comm]
  simp only [State.register, State.setRegister, Vector.getElem_set, hindex]

/-! ### The operations, by the action looked up (R172, R175, R176) -/

theorem exec_protWr_of_lookup {s : State} {o : BitVec 4} {act : ProtAction} (d : Byte)
    (h : lookupWrite s.cfg.prot o s.modeSelector = act) :
    exec (.protWr o d) s = protWriteAction act o d s := by
  show execProtWr o d s = _
  rw [execProtWr, h]

theorem exec_protRd_of_lookup {s : State} {o : BitVec 4} {act : ProtAction}
    (h : lookupRead s.cfg.prot o s.modeSelector s.mainPC = act) :
    exec (.protRd o) s = protReadAction act o s := by
  show execProtRd o s = _
  rw [execProtRd, h]

theorem exec_protWr_of_empty {s : State} (h : s.cfg.prot = []) (o : BitVec 4) (d : Byte) :
    exec (.protWr o d) s = .next (s.setRegister o d) :=
  exec_protWr_of_lookup d (lookupWrite_default (by simp [h]))

theorem exec_protRd_of_empty {s : State} (h : s.cfg.prot = []) (o : BitVec 4) :
    exec (.protRd o) s = .next (s.ret (s.register o)) :=
  exec_protRd_of_lookup (lookupRead_default (by simp [h]))

/-! ### The obligations -/

/-- Settles O15: the lookup answers with the first entry's action or the default, and each action is one
case of the write. -/
theorem protWritePerformsTheFirstEntry : Obligations.ProtWritePerformsTheFirstEntry := by
  intro s o d
  refine ⟨fun pre e post hl hpre he => ?first, fun hnone => ?default⟩
  case first =>
    have hlookup := lookupWrite_first hl hpre he
    refine ⟨fun a hact => ?passThrough, fun hact => ?plain, fun m hact => ?masked,
      fun v hact => ?constant⟩
    case passThrough =>
      rw [exec_protWr_of_lookup d (hlookup.trans hact), protWriteAction, mainMemWrite_eq]
    all_goals exact exec_protWr_of_lookup d (hlookup.trans hact)
  case default => exact exec_protWr_of_lookup d (lookupWrite_default hnone)

/-- Settles O16: the same on the read side, where only the pass-through asks the host. -/
theorem protReadPerformsTheFirstEntry : Obligations.ProtReadPerformsTheFirstEntry := by
  intro s o
  refine ⟨fun pre e post hl hpre he => ?first, fun hnone => ?default⟩
  case first =>
    have hlookup := lookupRead_first hl hpre he
    refine ⟨fun a hact => ?passThrough, fun hact => ?plain, fun m hact => ?masked,
      fun v hact => ?constant⟩
    case passThrough =>
      rw [exec_protRd_of_lookup (hlookup.trans hact), protReadAction, mainMemRead_ret_eq]
    all_goals exact exec_protRd_of_lookup (hlookup.trans hact)
  case default => exact exec_protRd_of_lookup (lookupRead_default hnone)

/-- Settles O17: the latch holds the byte written; with no entry both operations work on the scratch
registers, and a write changes one of them. -/
theorem protRoundTrips : Obligations.ProtRoundTrips := by
  intro s d
  refine ⟨?latch, fun hempty o o' => ?scratch⟩
  case latch => exact ⟨{ s with modeSelector := some d }, rfl, exec_protRd13_latched rfl⟩
  case scratch =>
    have hread : exec (.protRd o') (s.setRegister o d) =
        .next ((s.setRegister o d).ret ((s.setRegister o d).register o')) :=
      exec_protRd_of_empty (s := s.setRegister o d) hempty o'
    rw [setRegister_register] at hread
    exact ⟨s.setRegister o d, exec_protWr_of_empty hempty o d, hread⟩

end Sys2Proof.Proofs
end

section
/-!
PROOFS. The sound bridge and the input ports: the mailbox latches, the speech and reset lines, and the
input-port read with the busy line merged in (R192 to R199, R343).
-/

namespace Sys2Proof.Proofs

open Sys2Proof Sys2Proof.Machine

/-! ### The mailbox latches (R192, R193) -/

theorem mailbox_zero (s : State) : s.mailbox 0 = s.soundlatch := rfl

theorem mailbox_one (s : State) : s.mailbox 1 = s.soundlatch2 := rfl

theorem exec_sndLatchRd_eq (s : State) (i : BitVec 1) :
    exec (.sndLatchRd i) s = .next { s with trace := s.trace ++ [.busReturn (s.mailbox i)] } := rfl

theorem exec_sndLatchWr_zero (s : State) (d : Byte) :
    exec (.sndLatchWr 0 d) s = .next { s with soundlatch := d } := rfl

theorem exec_sndLatchWr_one (s : State) (d : Byte) :
    exec (.sndLatchWr 1 d) s = .next { s with soundlatch2 := d } := rfl

/-! ### The speech lines and the sound CPU's reset line (R194 to R197, R199) -/

/-- A meaning that ends by driving a speech line, as the events it appends. -/
theorem next_speechLine_eq (s : State) (line : SpeechLine) (v : Byte) :
    (.next (speechLine s line v) : Result) =
      .next { s with trace := s.trace ++ lineEvents s line v } := by
  rw [speechLine_eq]

theorem exec_sndCpuResetWr_of_predicate {s : State} {d : Byte} {v : Bool}
    (h : openAt s.cfg.sndCpuResetAssert Config.freeSndCpuResetAssert d = v) :
    exec (.sndCpuResetWr d) s = .next { s with
      sndCpuReset := if v then 1 else 0
      trace := s.trace ++ resetLineEvents s (if v then 1 else 0) } := by
  show execSndCpuResetWr d s = _
  simp only [execSndCpuResetWr, h, soundCpuReset_eq]
  rfl

/-! ### What an input-port read asks the host (R198, R343) -/

theorem inputPort_eq (s : State) (i : Nat) :
    inputPort s i = (if s.cfg.hasInputReader then s.answer 0 else 0x00,
      { s with trace := s.trace ++ if s.cfg.hasInputReader then [.inputPort i] else [] }) := by
  unfold inputPort
  split
  · rfl
  · rw [List.append_nil]

theorem speechBusy_eq (s : State) :
    speechBusy s = (s.cfg.hasSpeechBusy && (s.answer 1).getLsbD 0,
      { s with trace := s.trace ++ if s.cfg.hasSpeechBusy then [.speechBusy] else [] }) := by
  unfold speechBusy
  cases s.cfg.hasSpeechBusy
  · simp
  · rfl

/-! ### INP.RD by the port asked (R198) -/

section Ports

variable {s : State} {i : BitVec 16}

theorem exec_inpRd_out_of_range (h : s.cfg.ninput ≤ i.toNat) : exec (.inpRd i) s = oorRead s :=
  if_pos h

theorem exec_inpRd_ordinary (h : i.toNat < s.cfg.ninput)
    (hport : s.cfg.speechStatusPort ≠ some i.toNat) :
    exec (.inpRd i) s = .next ((inputPort s i.toNat).2.ret (inputPort s i.toNat).1) := by
  show execInpRd i s = _
  rw [execInpRd, if_neg (Nat.not_le.2 h), if_neg hport]

theorem exec_inpRd_status (h : i.toNat < s.cfg.ninput)
    (hport : s.cfg.speechStatusPort = some i.toNat) :
    exec (.inpRd i) s = .next ((speechBusy (inputPort s i.toNat).2).2.ret
      (mergeBusy (inputPort s i.toNat).1 s.cfg.speechBusyMask
        (speechBusy (inputPort s i.toNat).2).1)) := by
  show execInpRd i s = _
  rw [execInpRd, if_neg (Nat.not_le.2 h), if_pos hport]

end Ports

/-! ### The obligations -/

/-- Settles O18: each latch is written by its own branch, and a read appends the bus byte alone. -/
theorem soundLatches : Obligations.SoundLatches := by
  intro s d
  refine ⟨exec_sndLatchWr_zero s d, exec_sndLatchWr_one s d, ?_, ?_⟩
  · rw [exec_sndLatchRd_eq, mailbox_zero]
  · rw [exec_sndLatchRd_eq, mailbox_one]

/-- Settles O19: every speech operation is one drive of a line, after the level is recorded where the
operation keeps one; the reset line's level is the predicate's answer. -/
theorem speechAndResetLines : Obligations.SpeechAndResetLines := by
  intro s b d
  exact ⟨next_speechLine_eq { s with speechReset := b } .reset (bitByte b),
    next_speechLine_eq { s with speechStart := b } .start (bitByte b),
    next_speechLine_eq { s with speechVcu := b } .vcu (bitByte b),
    next_speechLine_eq s .data d,
    fun _ => exec_sndCpuResetWr_of_predicate⟩

/-- Settles O20: the range check, then the two kinds of port; asking for the port's byte leaves the
board and the host's answers as they are, so the busy line is read as in the first state. -/
theorem inputPortRead : Obligations.InputPortRead := by
  intro s i
  refine ⟨fun hout => ?outOfRange, fun hin hport => ?ordinary, fun hin hport => ?status⟩
  case outOfRange => exact exec_inpRd_out_of_range hout
  case ordinary => rw [exec_inpRd_ordinary hin hport, inputPort_eq, ret_eq]
  case status =>
    rw [exec_inpRd_status hin hport, inputPort_eq, speechBusy_eq, ret_eq]
    rfl

end Sys2Proof.Proofs
end

section
/-!
PROOFS. The tile layers, the palette bank and the scroll table: the bus accesses (R211 to R221), the places
of the tile-pairs (R215, R346), and TILE.RENDER pair by pair (R213 to R216).
-/

namespace Sys2Proof.Proofs

open Sys2Proof Sys2Proof.Machine

/-! ### A layer that exists -/

section Layer

variable {s : State} {L : Nat} {tc : TileCfg} {tl : TileLayer}

theorem tile?_of_layer (htc : s.cfg.tiles[L]? = some tc) (htl : s.tiles[L]? = some tl) :
    s.tile? L = some (tc, tl) :=
  (tile?_eq_some s).2 ⟨htc, htl⟩

theorem tile?_out_of_range (h : s.cfg.tiles.length ≤ L) : s.tile? L = none := by
  rw [State.tile?, List.getElem?_eq_none h]

/-- Putting a layer back where it stands changes nothing. -/
theorem setTile_self (htl : s.tiles[L]? = some tl) : s.setTile L tl = s := by
  obtain ⟨hL, rfl⟩ := List.getElem?_eq_some_iff.1 htl
  rw [State.setTile, List.set_getElem_self]

theorem setTile_getElem?_self (htl : s.tiles[L]? = some tl) (new : TileLayer) :
    (s.setTile L new).tiles[L]? = some new := by
  obtain ⟨hL, _⟩ := List.getElem?_eq_some_iff.1 htl
  exact List.getElem?_set_self hL

theorem tileRender_of_layer (htc : s.cfg.tiles[L]? = some tc) (htl : s.tiles[L]? = some tl) :
    tileRender L s = s.setTile L (renderLayer s tc tl) := by
  rw [tileRender, tile?_of_layer htc htl]

theorem tileRender_out_of_range (h : s.cfg.tiles.length ≤ L) : tileRender L s = s := by
  rw [tileRender, tile?_out_of_range h]

end Layer

/-! ### The video RAM (R211, R212, R217) -/

section Vram

variable {s : State} {L : BitVec 3} {n : BitVec 16} {tc : TileCfg} {tl : TileLayer}

theorem exec_vramRd_in_range (htc : s.cfg.tiles[L.toNat]? = some tc)
    (htl : s.tiles[L.toNat]? = some tl) (hn : n.toNat < tc.vramSize) :
    exec (.vramRd L n) s = .next (s.ret (tl.vram.read n.toNat)) := by
  show execVramRd L n s = _
  simp only [execVramRd, tile?_of_layer htc htl, if_pos hn]

theorem exec_vramWr_in_range (d : Byte) (htc : s.cfg.tiles[L.toNat]? = some tc)
    (htl : s.tiles[L.toNat]? = some tl) (hn : n.toNat < tc.vramSize) :
    exec (.vramWr L n d) s = .next (s.setTile L.toNat { tl with
      vram := (storeTracked tl.vram tl.dirty n.toNat d).1
      dirty := (storeTracked tl.vram tl.dirty n.toNat d).2 }) := by
  show execVramWr L n d s = _
  simp only [execVramWr, tile?_of_layer htc htl, if_pos hn]

/-- The value-equality rule: the byte already held is not stored (R211). -/
theorem exec_vramWr_same {d : Byte} (htc : s.cfg.tiles[L.toNat]? = some tc)
    (htl : s.tiles[L.toNat]? = some tl) (hn : n.toNat < tc.vramSize)
    (hd : d = tl.vram.read n.toNat) : exec (.vramWr L n d) s = .next s := by
  rw [exec_vramWr_in_range d htc htl hn, storeTracked, if_pos hd]
  exact congrArg _ (setTile_self htl)

theorem exec_vramWr_changed {d : Byte} (htc : s.cfg.tiles[L.toNat]? = some tc)
    (htl : s.tiles[L.toNat]? = some tl) (hn : n.toNat < tc.vramSize)
    (hd : d ≠ tl.vram.read n.toNat) :
    exec (.vramWr L n d) s = .next (s.setTile L.toNat { tl with
      vram := tl.vram.write n.toNat d, dirty := markDirty tl.dirty n.toNat }) := by
  rw [exec_vramWr_in_range d htc htl hn, storeTracked, if_neg hd]

/-- The two causes of R212: a layer that does not exist, and an offset beyond its video RAM. -/
theorem vram_out_of_range (d : Byte)
    (h : s.cfg.tiles.length ≤ L.toNat ∨
      ∃ tc, s.cfg.tiles[L.toNat]? = some tc ∧ tc.vramSize ≤ n.toNat) :
    exec (.vramRd L n) s = oorRead s ∧ exec (.vramWr L n d) s = oorWrite s := by
  show execVramRd L n s = _ ∧ execVramWr L n d s = _
  unfold execVramRd execVramWr
  cases hlayer : s.tile? L.toNat with
  | none => exact ⟨rfl, rfl⟩
  | some layer =>
    obtain ⟨tc, tl⟩ := layer
    obtain ⟨htc, _⟩ := (tile?_eq_some s).1 hlayer
    have hn : ¬n.toNat < tc.vramSize := by
      obtain hL | ⟨tc', htc', hle⟩ := h
      · rw [List.getElem?_eq_none hL] at htc
        cases htc
      · rw [htc, Option.some.injEq] at htc'
        rw [htc']
        exact Nat.not_lt.2 hle
    exact ⟨if_neg hn, if_neg hn⟩

end Vram

theorem dirtyBit_markDirty {d : List Bool} {n : Nat} (h : n < d.length) (a : Nat) :
    dirtyBit (markDirty d n) a = if a = n then true else dirtyBit d a := by
  split_ifs with ha
  · rw [ha, dirtyBit_markDirty_same h]
  · exact dirtyBit_markDirty_ne ha

/-- Settles O21: the tracked store has two branches, and the one that stores sets the one bit. -/
theorem vramWrite : Obligations.VramWrite := by
  intro s L n d tc tl htc htl hn hwf hlen
  refine ⟨exec_vramWr_same htc htl hn, fun hd => ⟨_, exec_vramWr_changed htc htl hn hd, rfl,
    fun a => memory_read_write hwf _ a d, dirtyBit_markDirty (by omega)⟩⟩

/-- Settles O22: the range check passes exactly on an offset of a layer that exists. -/
theorem vramReadAndRange : Obligations.VramReadAndRange := fun _ _ _ d =>
  ⟨fun _ _ => exec_vramRd_in_range, vram_out_of_range d⟩

/-! ### The palette bank (R218, R219) -/

/-- A dirty map, with every bit set where `p` holds. -/
def markWhere (p : Bool) (d : List Bool) : List Bool := if p then markAll d else d

theorem markAll_eq_replicate (d : List Bool) : markAll d = List.replicate d.length true :=
  List.map_const' ..

theorem markWhere_true {p : Bool} (h : p = true) (d : List Bool) :
    markWhere p d = List.replicate d.length true := by
  rw [markWhere, if_pos h, markAll_eq_replicate]

theorem markWhere_false {p : Bool} (h : ¬p = true) (d : List Bool) : markWhere p d = d := if_neg h

/-- Only dirty maps of layers differ between `s` and `t`, where the tile layers are as many. -/
def DirtyOnly (s t : State) : Prop :=
  t = { s with
    tiles := t.tiles
    spr0 := { s.spr0 with dirty := t.spr0.dirty }
    spr1 := { s.spr1 with dirty := t.spr1.dirty } } ∧ t.tiles.length = s.tiles.length

theorem DirtyOnly.trans {s t u : State} (h : DirtyOnly s t) (h' : DirtyOnly t u) : DirtyOnly s u := by
  obtain ⟨ht, hlen⟩ := h
  obtain ⟨hu, hlen'⟩ := h'
  exact ⟨by rw [hu, ht], hlen'.trans hlen⟩

/-- The marking of one monitor's layers, where its palette-bank bit is toggled. -/
def markIf (toggled : Bool) (m : Monitor) (s : State) : State := if toggled then markMonitor s m else s

section MarkIf

variable (toggled : Bool) (m : Monitor) (s : State)

theorem markIf_dirtyOnly : DirtyOnly s (markIf toggled m s) := by
  cases toggled
  · exact ⟨rfl, rfl⟩
  · exact ⟨markMonitor_frame s m, by simp [markIf, markMonitor]⟩

theorem markIf_cfg : (markIf toggled m s).cfg = s.cfg := by
  cases toggled <;> rfl

theorem markIf_spr0 : (markIf toggled m s).spr0.dirty =
    markWhere (toggled && s.cfg.spr0.mon = m) s.spr0.dirty := by
  cases toggled
  · rfl
  · by_cases h : s.cfg.spr0.mon = m <;> simp [markIf, markMonitor, markWhere, h]

theorem markIf_spr1 : (markIf toggled m s).spr1.dirty =
    markWhere (toggled && s.cfg.spr1.mon = m) s.spr1.dirty := by
  cases toggled
  · rfl
  · by_cases h : s.cfg.spr1.mon = m <;> simp [markIf, markMonitor, markWhere, h]

theorem markIf_tile {s : State} {L : Nat} {tc : TileCfg} {tl : TileLayer}
    (htc : s.cfg.tiles[L]? = some tc) (htl : s.tiles[L]? = some tl) :
    (markIf toggled m s).tiles[L]? =
      some { tl with dirty := markWhere (toggled && tc.mon = m) tl.dirty } := by
  cases toggled
  · exact htl
  · rw [markIf, if_pos rfl, markMonitor_tile, htl, htc]
    by_cases hm : tc.mon = m <;> simp [markWhere, hm]

end MarkIf

/-- The marking of the layers of every toggled monitor. -/
def markToggled (toggled : Monitor → Bool) (s : State) : State :=
  markIf (toggled .top) .top (markIf (toggled .bottom) .bottom s)

section MarkToggled

variable (toggled : Monitor → Bool)

/-- Of the two markings a layer takes part in that of its own monitor. -/
theorem markWhere_own_monitor (mon : Monitor) (d : List Bool) :
    markWhere (toggled .top && mon = .top) (markWhere (toggled .bottom && mon = .bottom) d) =
      markWhere (toggled mon) d := by
  cases mon <;> simp [markWhere]

theorem markToggled_dirtyOnly (s : State) : DirtyOnly s (markToggled toggled s) :=
  (markIf_dirtyOnly _ .bottom s).trans (markIf_dirtyOnly _ .top _)

theorem markToggled_spr0 (s : State) : (markToggled toggled s).spr0.dirty =
    markWhere (toggled s.cfg.spr0.mon) s.spr0.dirty := by
  rw [markToggled, markIf_spr0, markIf_spr0, markIf_cfg, markWhere_own_monitor]

theorem markToggled_spr1 (s : State) : (markToggled toggled s).spr1.dirty =
    markWhere (toggled s.cfg.spr1.mon) s.spr1.dirty := by
  rw [markToggled, markIf_spr1, markIf_spr1, markIf_cfg, markWhere_own_monitor]

theorem markToggled_tile {s : State} {L : Nat} {tc : TileCfg} {tl : TileLayer}
    (htc : s.cfg.tiles[L]? = some tc) (htl : s.tiles[L]? = some tl) :
    (markToggled toggled s).tiles[L]? =
      some { tl with dirty := markWhere (toggled tc.mon) tl.dirty } := by
  rw [markToggled, markIf_tile _ _ (by rwa [markIf_cfg]) (markIf_tile _ _ htc htl),
    markWhere_own_monitor]

end MarkToggled

/-- Storing `d` toggles the palette-bank bit of the monitor (R218). -/
def bankToggled (d : Byte) (s : State) (m : Monitor) : Bool := bankBit d m != bankBit s.palbank m

theorem bankToggled_iff (d : Byte) (s : State) (m : Monitor) :
    bankToggled d s m = true ↔ bankBit d m ≠ bankBit s.palbank m := bne_iff_ne

theorem exec_ctlPalbankWr_eq (d : Byte) (s : State) :
    exec (.ctlPalbankWr d) s = .next (markToggled (bankToggled d s) { s with palbank := d }) := rfl

/-- Settles O23: the store leaves the layers alone, and each takes part in the marking of its own
monitor. -/
theorem paletteBankWrite : Obligations.PaletteBankWrite := by
  intro s d toggled
  have hiff (m : Monitor) : toggled m ↔ bankToggled d s m = true := (bankToggled_iff d s m).symm
  have hset {m : Monitor} (h : toggled m) (dirty : List Bool) :
      markWhere (bankToggled d s m) dirty = List.replicate dirty.length true :=
    markWhere_true ((hiff m).1 h) dirty
  have hkept {m : Monitor} (h : ¬toggled m) (dirty : List Bool) :
      markWhere (bankToggled d s m) dirty = dirty := markWhere_false (mt (hiff m).2 h) dirty
  obtain ⟨hframe, hlength⟩ := markToggled_dirtyOnly (bankToggled d s) { s with palbank := d }
  have hspr0 := markToggled_spr0 (bankToggled d s) { s with palbank := d }
  have hspr1 := markToggled_spr1 (bankToggled d s) { s with palbank := d }
  refine ⟨_, exec_ctlPalbankWr_eq d s, hframe, hlength, fun L tc tl htc htl => ?_,
    fun h => hspr0.trans (hset h _), fun h => hspr0.trans (hkept h _),
    fun h => hspr1.trans (hset h _), fun h => hspr1.trans (hkept h _)⟩
  exact ⟨_, markToggled_tile _ htc htl, rfl, fun h => hset h _, fun h => hkept h _⟩

/-! ### The scroll table (R110, R220, R221) -/

/-- Settles O24: in range the operations are the table's own. -/
theorem paletteBankReadAndScrollTable : Obligations.PaletteBankReadAndScrollTable :=
  fun _ _ d hwf =>
    ⟨rfl, fun hin => ⟨if_pos hin, _, if_pos hin, fun a => memory_read_write hwf _ a d⟩,
      fun hout => ⟨if_neg (Nat.not_lt.2 hout), if_neg (Nat.not_lt.2 hout)⟩⟩

end Sys2Proof.Proofs
end

section
/-!
PROOFS. TILE.RENDER pair by pair (R213 to R216): the cells of a checked layer's pairs lie in its bitmap and
do not overlap (R215, R346), so a drawn pair shows in its own cell and in no other.
-/

namespace Sys2Proof.Proofs

open Sys2Proof Sys2Proof.Machine

/-! ### The places of the pairs (R215, R346) -/

/-- The cells of a layer's pairs lie in its bitmap and do not overlap. -/
structure CellsPlaced (tc : TileCfg) : Prop where
  inside : ∀ k < tc.vramSize / 2,
    (tilePos tc k).1 + 8 ≤ 8 * tc.cols ∧ (tilePos tc k).2 + 8 ≤ 8 * tc.rows
  disjoint : ∀ j k, j < k → k < tc.vramSize / 2 → cellsDisjoint (tilePos tc j) (tilePos tc k) = true

theorem cellsDisjoint_iff (a b : Nat × Nat) : cellsDisjoint a b = true ↔
    a.1 + 8 ≤ b.1 ∨ b.1 + 8 ≤ a.1 ∨ a.2 + 8 ≤ b.2 ∨ b.2 + 8 ≤ a.2 := by
  simp [cellsDisjoint, or_assoc]

/-- Row-major places: different pairs differ in their column or in their row. -/
theorem cellsPlaced_default {tc : TileCfg} (hpos : tc.pos = none)
    (hsize : tc.vramSize = 2 * tc.cols * tc.rows) : CellsPlaced tc := by
  have hpairs : tc.vramSize / 2 = tc.cols * tc.rows := by
    rw [hsize, Nat.mul_assoc, Nat.mul_div_cancel_left _ (by omega)]
  have hplace (k : Nat) : tilePos tc k = (8 * (k % tc.cols), 8 * (k / tc.cols)) := by
    rw [tilePos, hpos]
  refine ⟨fun k hk => ?_, fun j k hjk _ => ?_⟩
  · rw [hpairs] at hk
    have hcol : k % tc.cols < tc.cols := Nat.mod_lt _ (Nat.pos_of_mul_pos_right (Nat.zero_lt_of_lt hk))
    have hrow : k / tc.cols < tc.rows := Nat.div_lt_of_lt_mul hk
    rw [hplace]
    exact ⟨by omega, by omega⟩
  · have hne : k % tc.cols ≠ j % tc.cols ∨ k / tc.cols ≠ j / tc.cols := by
      by_contra hsame
      push Not at hsame
      have hj := Nat.div_add_mod j tc.cols
      have hk := Nat.div_add_mod k tc.cols
      rw [hsame.1, hsame.2] at hk
      omega
    rw [cellsDisjoint_iff, hplace, hplace]
    dsimp only
    omega

/-- A placement table that passes its check. -/
theorem cellsPlaced_table {tc : TileCfg} {table : List (Nat × Nat)} (hpos : tc.pos = some table)
    (hok : tilePosOk tc = true) : CellsPlaced tc := by
  simp only [tilePosOk, hpos, Bool.and_eq_true, decide_eq_true_eq, List.all_eq_true, take_forall_iff,
    take_pairwise_iff] at hok
  obtain ⟨hinside, hdisjoint⟩ := hok
  have hplace {k : Nat} {xy : Nat × Nat} (h : table[k]? = some xy) : tilePos tc k = xy := by
    simp only [tilePos, hpos, h]
  refine ⟨fun k hk => ?_, fun j k hjk hk => ?_⟩
  · obtain ⟨xy, hxy, hin⟩ := hinside k hk
    rwa [hplace hxy]
  · obtain ⟨a, ha, _⟩ := hinside j (hjk.trans hk)
    obtain ⟨b, hb, _⟩ := hinside k hk
    rw [hplace ha, hplace hb]
    exact hdisjoint j k a b hjk hk ha hb

theorem cellsPlaced_of_checked {tc : TileCfg} (hsize : vramSizeOk tc = true)
    (hok : tilePosOk tc = true) : CellsPlaced tc := by
  cases hpos : tc.pos with
  | none =>
    simp only [vramSizeOk, hpos, Option.isSome_none, Bool.false_or, Bool.and_eq_true,
      decide_eq_true_eq] at hsize
    exact cellsPlaced_default hpos hsize.2
  | some table => exact cellsPlaced_table hpos hok

theorem CellsPlaced.disjoint_of_ne {tc : TileCfg} (h : CellsPlaced tc) {j k : Nat} (hne : j ≠ k)
    (hj : j < tc.vramSize / 2) (hk : k < tc.vramSize / 2) :
    cellsDisjoint (tilePos tc j) (tilePos tc k) = true := by
  obtain hlt | hlt := Nat.lt_or_gt_of_ne hne
  · exact h.disjoint j k hlt hk
  · have hsymm := (cellsDisjoint_iff _ _).1 (h.disjoint k j hlt hj)
    rw [cellsDisjoint_iff]
    omega

/-! ### Drawing one pair (R216) -/

section DrawTile

variable (s : State) (tc : TileCfg) (lo hi : Byte)

/-- A pair's pixels stay in its cell, flipped or not. -/
theorem tileTarget_within (k : Nat) {r c : Nat} (hr : r < 8) (hc : c < 8) :
    ((tilePos tc k).1 ≤ (tileTarget s tc lo hi k r c).1 ∧
      (tileTarget s tc lo hi k r c).1 < (tilePos tc k).1 + 8) ∧
    (tilePos tc k).2 ≤ (tileTarget s tc lo hi k r c).2 ∧
      (tileTarget s tc lo hi k r c).2 < (tilePos tc k).2 + 8 := by
  unfold tileTarget
  split_ifs <;> refine ⟨⟨?_, ?_⟩, ?_, ?_⟩ <;> dsimp only <;> omega

theorem drawTile_get_target {k : Nat} {p : Pixmap} {r c : Nat} (hr : r < 8) (hc : c < 8)
    (hp : p.wf) (hwidth : (tilePos tc k).1 + 8 ≤ p.width)
    (hheight : (tilePos tc k).2 + 8 ≤ p.height) :
    (drawTile s tc k lo hi p).get (tileTarget s tc lo hi k r c).1 (tileTarget s tc lo hi k r c).2 =
      tileColor s tc lo hi r c := by
  obtain ⟨⟨_, hx⟩, _, hy⟩ := tileTarget_within s tc lo hi k hr hc
  have hcovers : p.covers (tileTarget s tc lo hi k r c).1 (tileTarget s tc lo hi k r c).2 = true :=
    (p.covers_iff _ _).2 ⟨by omega, by omega⟩
  exact drawCell_get_inside (tileColor s tc lo hi) _ _ _ p hr hc hp hcovers

/-- Drawing one pair leaves the cells of the others. -/
theorem drawTile_get_other {j k : Nat} (p : Pixmap) (lo' hi' : Byte) {r c : Nat} (hr : r < 8)
    (hc : c < 8) (hdisjoint : cellsDisjoint (tilePos tc j) (tilePos tc k) = true) :
    (drawTile s tc j lo hi p).get (tileTarget s tc lo' hi' k r c).1
      (tileTarget s tc lo' hi' k r c).2 =
    p.get (tileTarget s tc lo' hi' k r c).1 (tileTarget s tc lo' hi' k r c).2 := by
  obtain ⟨⟨hx, hx'⟩, hy, hy'⟩ := tileTarget_within s tc lo' hi' k hr hc
  have hapart := (cellsDisjoint_iff _ _).1 hdisjoint
  exact drawCell_get_outside _ _ _ _ p (by omega)

end DrawTile

/-! ### The first `n` pairs (R213) -/

/-- One of the two bytes of pair `k` is dirty (R213). -/
abbrev PairDirty (tl : TileLayer) (k : Nat) : Prop :=
  dirtyBit tl.dirty (2 * k) = true ∨ dirtyBit tl.dirty (2 * k + 1) = true

/-- The layer after the first `n` iterations of TILE.RENDER. -/
def renderFirst (s : State) (tc : TileCfg) (tl : TileLayer) (n : Nat) : TileLayer :=
  (List.range n).foldl (renderPair s tc) tl

section RenderFirst

variable (s : State) (tc : TileCfg) (tl : TileLayer)

theorem renderLayer_eq_renderFirst :
    renderLayer s tc tl = renderFirst s tc tl (tc.vramSize / 2) := rfl

theorem renderFirst_succ (n : Nat) :
    renderFirst s tc tl (n + 1) = renderPair s tc (renderFirst s tc tl n) n := by
  rw [renderFirst, List.range_succ, List.foldl_append]
  rfl

theorem renderFirst_vram (n : Nat) : (renderFirst s tc tl n).vram = tl.vram :=
  foldl_keeps (P := fun u : TileLayer => u.vram = tl.vram) _ tl
    (fun u k _ hu => (renderPair_vram s tc u k).trans hu) rfl

theorem renderPair_of_dirty {k : Nat} (h : PairDirty tl k) : (renderPair s tc tl k).bitmap =
    drawTile s tc k (tl.vram.read (2 * k)) (tl.vram.read (2 * k + 1)) tl.bitmap := by
  rw [renderPair, if_pos (by simpa using h)]

theorem renderPair_of_clean {k : Nat} (h : ¬PairDirty tl k) : renderPair s tc tl k = tl := by
  rw [renderPair, if_neg (by simpa using h)]

/-- The pairs drawn so far are clean, and no other bit has changed. -/
theorem renderFirst_dirtyBit (n m : Nat) : dirtyBit (renderFirst s tc tl n).dirty m =
    (dirtyBit tl.dirty m && decide (2 * n ≤ m)) := by
  induction n with
  | zero => simp [renderFirst]
  | succ n ih =>
    rw [renderFirst_succ, renderPair_dirtyBit, ih, Bool.and_assoc]
    congr 1
    rw [Bool.eq_iff_iff]
    simp only [Bool.and_eq_true, Bool.not_eq_true', Bool.and_eq_false_iff, decide_eq_true_eq,
      decide_eq_false_iff_not]
    omega

/-- A pair is drawn or skipped by its dirty bits at the start. -/
theorem pairDirty_renderFirst (n : Nat) : PairDirty (renderFirst s tc tl n) n ↔ PairDirty tl n := by
  simp [PairDirty, renderFirst_dirtyBit]

variable {s tc tl}

/-- The bitmap keeps its canonical form and its size. -/
theorem renderFirst_bitmap (n : Nat) (hwf : tl.bitmap.wf) :
    (renderFirst s tc tl n).bitmap.wf ∧
      pixmapDims (renderFirst s tc tl n).bitmap = pixmapDims tl.bitmap := by
  refine foldl_keeps (P := fun u : TileLayer => u.bitmap.wf ∧
    pixmapDims u.bitmap = pixmapDims tl.bitmap) _ tl (fun u k _ ⟨hu, hdims⟩ => ?_) ⟨hwf, rfl⟩
  by_cases hdirty : PairDirty u k
  · rw [renderPair_of_dirty s tc u hdirty]
    exact ⟨drawTile_wf s tc k _ _ hu, (pixmapDims_drawCell ..).trans hdims⟩
  · rw [renderPair_of_clean s tc u hdirty]
    exact ⟨hu, hdims⟩

/-- After the first `n` iterations the dirty ones of the first `n` pairs show what `DrawTile` draws, and
every other cell is as it was. -/
theorem renderFirst_get (hplaced : CellsPlaced tc) (hwidth : tl.bitmap.width = 8 * tc.cols)
    (hheight : tl.bitmap.height = 8 * tc.rows) (hwf : tl.bitmap.wf) {k : Nat}
    (hk : k < tc.vramSize / 2) {r c : Nat} (hr : r < 8) (hc : c < 8) {n : Nat}
    (hn : n ≤ tc.vramSize / 2) :
    let lo := tl.vram.read (2 * k)
    let hi := tl.vram.read (2 * k + 1)
    (renderFirst s tc tl n).bitmap.get (tileTarget s tc lo hi k r c).1
        (tileTarget s tc lo hi k r c).2 =
      if k < n ∧ PairDirty tl k then tileColor s tc lo hi r c
      else tl.bitmap.get (tileTarget s tc lo hi k r c).1 (tileTarget s tc lo hi k r c).2 := by
  intro lo hi
  induction n with
  | zero => rfl
  | succ n ih =>
    have ih := ih (by omega)
    have hothers (h : k = n → ¬PairDirty tl k) :
        (k < n + 1 ∧ PairDirty tl k) ↔ k < n ∧ PairDirty tl k := by
      rw [Nat.lt_succ_iff_lt_or_eq]
      tauto
    rw [renderFirst_succ]
    by_cases hdirty : PairDirty tl n
    · rw [renderPair_of_dirty _ _ _ ((pairDirty_renderFirst s tc tl n).2 hdirty), renderFirst_vram]
      by_cases hkn : k = n
      · subst hkn
        obtain ⟨hx, hy⟩ := hplaced.inside k hk
        obtain ⟨hwfk, hdims⟩ := renderFirst_bitmap (s := s) (tc := tc) k hwf
        obtain ⟨hwidthk, hheightk⟩ := Prod.mk.inj hdims
        rw [if_pos ⟨Nat.lt_succ_self k, hdirty⟩]
        exact drawTile_get_target s tc lo hi hr hc hwfk (by omega) (by omega)
      · rw [drawTile_get_other s tc _ _ _ lo hi hr hc
          (hplaced.disjoint_of_ne (Ne.symm hkn) (by omega) hk), ih]
        simp only [hothers (absurd · hkn)]
    · rw [renderPair_of_clean _ _ _ (mt (pairDirty_renderFirst s tc tl n).1 hdirty), ih]
      simp only [hothers (fun hkn => hkn ▸ hdirty)]

end RenderFirst

/-! ### The whole layer (R213) -/

section RenderLayer

variable {s : State} {tc : TileCfg} {tl : TileLayer}

/-- Every bit of the map belongs to some pair, so all are cleared. -/
theorem renderLayer_dirty (heven : tc.vramSize % 2 = 0) (hlen : tl.dirty.length = tc.vramSize) :
    (renderLayer s tc tl).dirty = List.replicate tc.vramSize false := by
  have hlength : (renderLayer s tc tl).dirty.length = tc.vramSize :=
    (Prod.mk.inj (renderLayer_dims s tc tl)).1.trans hlen
  refine List.eq_replicate_iff.2 ⟨hlength, fun b hb => ?_⟩
  obtain ⟨m, hm, rfl⟩ := List.getElem_of_mem hb
  have hpassed : ¬2 * (tc.vramSize / 2) ≤ m := by omega
  have hbit := renderFirst_dirtyBit s tc tl (tc.vramSize / 2) m
  rw [← renderLayer_eq_renderFirst, decide_eq_false hpassed, Bool.and_false] at hbit
  simpa [dirtyBit, hm] using hbit

/-- Every pixel of every pair: a dirty pair shows what `DrawTile` draws, a clean one what it showed. -/
theorem renderLayer_get (hplaced : CellsPlaced tc) (hsized : tl.sizedBy tc) (hwf : tl.bitmap.wf)
    {k : Nat} (hk : k < tc.vramSize / 2) {r c : Nat} (hr : r < 8) (hc : c < 8) :
    let lo := tl.vram.read (2 * k)
    let hi := tl.vram.read (2 * k + 1)
    (renderLayer s tc tl).bitmap.get (tileTarget s tc lo hi k r c).1
        (tileTarget s tc lo hi k r c).2 =
      if PairDirty tl k then tileColor s tc lo hi r c
      else tl.bitmap.get (tileTarget s tc lo hi k r c).1 (tileTarget s tc lo hi k r c).2 := by
  obtain ⟨_, hwidth, hheight⟩ := hsized
  simpa only [renderLayer_eq_renderFirst, hk, true_and] using
    renderFirst_get (s := s) hplaced hwidth hheight hwf hk hr hc le_rfl

end RenderLayer

theorem exec_tileRender_eq (L : BitVec 3) (s : State) :
    exec (.tileRender L) s = .next (tileRender L.toNat s) := rfl

/-- Settles O25: rendering replaces the layer by `renderLayer` of it.  It is named under `Render` so that
`tileRender` alone still means the model's. -/
theorem Render.tileRender : Obligations.TileRender := by
  intro s L
  constructor
  · intro hout
    rw [exec_tileRender_eq, tileRender_out_of_range hout]
  · intro tc tl htc htl heven hlen
    obtain ⟨_, hdims⟩ := Prod.mk.inj (renderLayer_dims s tc tl)
    obtain ⟨hwidth, hheight⟩ := Prod.mk.inj hdims
    exact ⟨renderLayer s tc tl, congrArg _ (tileRender_of_layer htc htl), renderLayer_vram s tc tl,
      renderLayer_dirty heven hlen, hwidth, hheight⟩

/-- Settles O26: a pair that is dirty at the start is drawn in its own cell, and no pair is drawn in
another's. -/
theorem tileRenderRedrawsExactlyTheDirtyPairs : Obligations.TileRenderRedrawsExactlyTheDirtyPairs := by
  intro s L tc tl htc htl hsize hpos hsized hwf
  refine ⟨_, renderLayer s tc tl, exec_tileRender_eq L s, ?_, fun k hk r hr c hc => ?_⟩
  · rw [tileRender_of_layer htc htl]
    exact setTile_getElem?_self htl _
  · exact renderLayer_get (cellsPlaced_of_checked hsize hpos) hsized hwf hk hr hc

end Sys2Proof.Proofs
end

section
/-!
PROOFS. The coherence invariant of R223: which operations write what a tile layer's cells are compared with,
and why each of these keeps the cells of the clean pairs as `DrawTile` would draw them.
-/

namespace Sys2Proof.Proofs

open Sys2Proof Sys2Proof.Machine

/-! ### A pair that shows what `DrawTile` would draw -/

/-- The cell of pair `k` shows what `DrawTile` would draw from the layer's video RAM. -/
def PairShown (s : State) (tc : TileCfg) (tl : TileLayer) (k : Nat) : Prop :=
  ∀ r < 8, ∀ c < 8,
    let lo := tl.vram.read (2 * k)
    let hi := tl.vram.read (2 * k + 1)
    tl.bitmap.get (tileTarget s tc lo hi k r c).1 (tileTarget s tc lo hi k r c).2 =
      tileColor s tc lo hi r c

/-- Every clean pair of the layer is shown. -/
def LayerCoherent (s : State) (tc : TileCfg) (tl : TileLayer) : Prop :=
  ∀ k < tc.vramSize / 2, ¬PairDirty tl k → PairShown s tc tl k

theorem coherent_iff (s : State) : s.coherent ↔ ∀ (L : Nat) (tc : TileCfg) (tl : TileLayer),
    s.cfg.tiles[L]? = some tc → s.tiles[L]? = some tl → LayerCoherent s tc tl := by
  simp only [LayerCoherent, PairDirty, not_or, Bool.not_eq_true, and_imp]
  rfl

/-- What `DrawTile` draws hangs on the palette-bank bit of the layer's monitor and on the colour tables
alone. -/
theorem pairShown_congr {s t : State} {tc : TileCfg} {tl : TileLayer} {k : Nat}
    (hbank : bankBit t.palbank tc.mon = bankBit s.palbank tc.mon)
    (hcolor : t.colortable = s.colortable) (h : PairShown s tc tl k) : PairShown t tc tl k := by
  have hdecode (lo hi : Byte) :
      tileDecode tc t.palbank lo hi = tileDecode tc s.palbank lo hi := by
    simp only [tileDecode, hbank]
  have htarget (lo hi : Byte) : tileTarget t tc lo hi k = tileTarget s tc lo hi k := by
    funext r c
    simp only [tileTarget, hdecode]
  have hdrawn (lo hi : Byte) : tileColor t tc lo hi = tileColor s tc lo hi := by
    funext r c
    simp only [tileColor, hdecode, tilePixel, State.color, hcolor]
  simpa only [PairShown, htarget, hdrawn] using h

/-- A layer whose dirty bits are all set has no pair to show. -/
theorem layerCoherent_of_allDirty {s : State} {tc : TileCfg} {tl : TileLayer}
    (hlen : tl.dirty.length = tc.vramSize) :
    LayerCoherent s tc { tl with dirty := markAll tl.dirty } := by
  intro k hk hclean
  exact absurd (.inl (dirtyBit_markAll (by omega))) hclean

/-! ### Operations that write none of this -/

/-- The board, the tile layers, the palette bank and the colour tables are as they were. -/
structure KeepsTiles (s t : State) : Prop where
  cfg : t.cfg = s.cfg
  tiles : t.tiles = s.tiles
  palbank : t.palbank = s.palbank
  colortable : t.colortable = s.colortable

theorem KeepsTiles.refl (s : State) : KeepsTiles s s := ⟨rfl, rfl, rfl, rfl⟩

theorem KeepsTiles.trans {s t u : State} (h : KeepsTiles s t) (h' : KeepsTiles t u) :
    KeepsTiles s u :=
  ⟨h'.cfg.trans h.cfg, h'.tiles.trans h.tiles, h'.palbank.trans h.palbank,
    h'.colortable.trans h.colortable⟩

theorem KeepsTiles.coherent {s t : State} (h : KeepsTiles s t) (hs : s.coherent) : t.coherent := by
  rw [coherent_iff] at hs ⊢
  rw [h.cfg, h.tiles]
  exact fun L tc tl htc htl k hk hclean =>
    pairShown_congr (by rw [h.palbank]) h.colortable (hs L tc tl htc htl k hk hclean)

theorem keepsTiles_of_framesOnly {s t : State} (h : FramesOnly s t) : KeepsTiles s t := by
  rw [FramesOnly] at h
  rw [h]
  exact ⟨rfl, rfl, rfl, rfl⟩

theorem keepsTiles_of_passFrame {s t : State} (h : PassFrame s t) : KeepsTiles s t := by
  rw [PassFrame] at h
  rw [h]
  exact ⟨rfl, rfl, rfl, rfl⟩

theorem keepsTiles_of_bankOnly {s t : State} (h : BankOnly s t) : KeepsTiles s t := by
  rw [h.frame]
  exact ⟨rfl, rfl, rfl, rfl⟩

theorem keepsTiles_of_answered {s t : State} (h : Answered s t) : KeepsTiles s t := by
  obtain ⟨_, v, ⟨asked, rfl, _⟩, rfl⟩ := h
  exact ⟨rfl, rfl, rfl, rfl⟩

/-- A capability that hands something on appends its event, where it is present. -/
theorem keepsTiles_of_told {s t u : State} {e : Event} (hu : u = t.emit e ∨ u = t)
    (h : KeepsTiles s t) : KeepsTiles s u := by
  obtain rfl | rfl := hu
  exacts [h.trans ⟨rfl, rfl, rfl, rfl⟩, h]

theorem spriteRefresh_keepsTiles (S : SpriteId) (s : State) : KeepsTiles s (spriteRefresh S s) := by
  cases S <;> exact ⟨rfl, rfl, rfl, rfl⟩

section KeepsTilesYields

variable (s : State)

theorem keepsTiles_oorWrite : Yields (KeepsTiles s) (oorWrite s) := .next (KeepsTiles.refl s)

/-- A read writes nothing but the trace. -/
theorem readOp_keepsTiles {i : Instr} (h : ReadOp i) : Yields (KeepsTiles s) (exec i s) := by
  obtain ⟨t, ht, hanswered⟩ := exec_answers h s
  rw [ht]
  exact .next (keepsTiles_of_answered hanswered)

/-- A write to an addressed store outside the tile layers, behind its range check (R80). -/
theorem rangedWrite_keepsTiles {p : Prop} [Decidable p] {t : State} (h : KeepsTiles s t) :
    Yields (KeepsTiles s) (if p then .next t else oorWrite s) :=
  .ite (.next h) (keepsTiles_oorWrite s)

theorem protWr_keepsTiles (o : BitVec 4) (d : Byte) :
    Yields (KeepsTiles s) (execProtWr o d s) := by
  intro t h
  obtain rfl | ⟨v, rfl⟩ | ⟨a, rfl⟩ := protWriteAction_next s h
  · exact KeepsTiles.refl _
  · exact ⟨rfl, rfl, rfl, rfl⟩
  · exact keepsTiles_of_told (mainMemWrite_cases s a d) (KeepsTiles.refl s)

theorem sprRamWr_keepsTiles (S : BitVec 1) (n : BitVec 15) (d : Byte) :
    Yields (KeepsTiles s) (execSprRamWr S n d s) := by
  refine rangedWrite_keepsTiles s ?_
  cases spriteOf S <;> exact ⟨rfl, rfl, rfl, rfl⟩

theorem sprCtrlWr_keepsTiles (S : BitVec 1) (r : BitVec 15) (d : Byte) :
    Yields (KeepsTiles s) (execSprCtrlWr S r d s) := by
  unfold execSprCtrlWr
  split_ifs <;> exact .next ⟨rfl, rfl, rfl, rfl⟩

theorem roadRegWr_keepsTiles (k : BitVec 3) (d : Byte) :
    Yields (KeepsTiles s) (execRoadRegWr k d s) := by
  unfold execRoadRegWr
  split_ifs <;> exact .next ⟨rfl, rfl, rfl, rfl⟩

theorem sprRefresh_keepsTiles (S : BitVec 3) : Yields (KeepsTiles s) (execSprRefresh S s) :=
  .ite (.next (spriteRefresh_keepsTiles _ s)) (.ite (.next (spriteRefresh_keepsTiles _ s))
    (.next (KeepsTiles.refl s)))

/-- Building a colour table again gives the table that stands there (R307). -/
theorem palCtBuild_keepsTiles (g : BitVec 3) (hbuilt : s.colortable = buildColorTables s.cfg) :
    Yields (KeepsTiles s) (execPalCtBuild g s) := by
  unfold execPalCtBuild
  split
  · next ct hct =>
    refine .next ⟨rfl, rfl, rfl, ?_⟩
    obtain ⟨hg, rfl⟩ := List.getElem?_eq_some_iff.1 hct
    have hset := List.set_getElem_self (as := buildColorTables s.cfg) (i := g.toNat)
      (by simpa [buildColorTables] using hg)
    simpa [hbuilt, buildColorTables] using hset
  · exact .next (KeepsTiles.refl s)

end KeepsTilesYields

/-! ### The operations that do -/

/-- What the operations that write the tile layers keep together: a checked board, the sizes, the canonical
form and the coherence. -/
structure TilesSound (s : State) : Prop where
  checked : checkConfiguration s.cfg = none
  sized : s.sized
  canonical : s.canonical
  coherent : s.coherent

section TilesSound

variable {s : State} {L : Nat} {tc : TileCfg} {tl : TileLayer}

theorem layer_sized (h : s.sized) (htc : s.cfg.tiles[L]? = some tc)
    (htl : s.tiles[L]? = some tl) : tl.sizedBy tc := by
  obtain ⟨_, htiles, _⟩ := h
  obtain ⟨hcfg, rfl⟩ := List.getElem?_eq_some_iff.1 htc
  obtain ⟨htile, rfl⟩ := List.getElem?_eq_some_iff.1 htl
  exact htiles.get htile hcfg

theorem layer_placed (h : checkConfiguration s.cfg = none) (htc : s.cfg.tiles[L]? = some tc) :
    CellsPlaced tc := by
  have hmet := (checkConfiguration_eq_none_iff s.cfg).1 h
  refine cellsPlaced_of_checked ?_ ?_ <;> rw [← Bool.not_eq_false]
  · exact fun hfails => hmet (.vramSize L) ⟨tc, htc, (vramSizeOk_eq_false tc).1 hfails⟩
  · intro hfails
    obtain ⟨table, hpos, hbad⟩ := (tilePosOk_eq_false tc).1 hfails
    exact hmet (.tilePos L) ⟨tc, table, htc, hpos, hbad⟩

/-- One layer replaced by a coherent one. -/
theorem setTile_coherent (hs : s.coherent) {new : TileLayer}
    (hnew : ∀ tc, s.cfg.tiles[L]? = some tc → LayerCoherent s tc new) :
    (s.setTile L new).coherent := by
  rw [coherent_iff] at hs ⊢
  intro L' tc tl htc htl k hk hclean
  refine pairShown_congr (s := s) rfl rfl ?_
  by_cases hL : L = L'
  · subst hL
    obtain ⟨_, rfl⟩ := List.getElem?_eq_some_iff.1 htl
    simp only [State.setTile_tiles, List.getElem_set_self] at hclean ⊢
    exact hnew tc htc k hk hclean
  · rw [State.setTile_tiles, List.getElem?_set_ne hL] at htl
    exact hs L' tc tl htc htl k hk hclean

/-- A rendered layer: a pair that was dirty is drawn, a clean one still shows what it did. -/
theorem renderLayer_coherent (hplaced : CellsPlaced tc) (hsized : tl.sizedBy tc)
    (hwf : tl.bitmap.wf) (h : LayerCoherent s tc tl) :
    LayerCoherent s tc (renderLayer s tc tl) := by
  intro k hk _ r hr c hc
  rw [renderLayer_vram]
  refine (renderLayer_get hplaced hsized hwf hk hr hc).trans ?_
  split_ifs with hdirty
  · rfl
  · exact h k hk hdirty r hr c hc

theorem tileRender_coherent (h : TilesSound s) (L : Nat) : (tileRender L s).coherent := by
  cases hlayer : s.tile? L with
  | none =>
    rw [tileRender, hlayer]
    exact h.coherent
  | some layer =>
    obtain ⟨tc, tl⟩ := layer
    obtain ⟨htc, htl⟩ := (tile?_eq_some s).1 hlayer
    obtain ⟨_, hwf⟩ := tile_wf h.canonical htl
    rw [tileRender_of_layer htc htl]
    refine setTile_coherent h.coherent fun tc' htc' => ?_
    obtain rfl := Option.some.inj (htc.symm.trans htc')
    exact renderLayer_coherent (layer_placed h.checked htc) (layer_sized h.sized htc htl) hwf
      ((coherent_iff s).1 h.coherent L tc tl htc htl)

/-- The sizes are the board's, and `Keeps` speaks of both. -/
theorem Keeps.sized {t : State} (h : Keeps s t) (hs : s.sized) : t.sized :=
  (Effect.ordinary (i := .seqScrollComp) h).sized hs

theorem tileRender_sound (h : TilesSound s) (L : Nat) : TilesSound (tileRender L s) where
  checked := by rw [(tileRender_keeps L s).cfg]; exact h.checked
  sized := (tileRender_keeps L s).sized h.sized
  canonical := tileRender_canonical h.canonical L
  coherent := tileRender_coherent h L

theorem renderAllTiles_sound (h : TilesSound s) : TilesSound (renderAllTiles s) :=
  foldl_keeps (P := TilesSound) _ s (fun _ L _ ht => tileRender_sound ht L) h

theorem markEverything_coherent (hsized : s.sized) : (markEverything s).coherent := by
  rw [coherent_iff]
  intro L tc tl htc htl
  have hmap := htl
  rw [markEverything, List.getElem?_map] at hmap
  obtain ⟨old, hold, rfl⟩ := Option.map_eq_some_iff.1 hmap
  obtain ⟨hlen, _⟩ := layer_sized hsized htc hold
  exact layerCoherent_of_allDirty hlen

theorem markEverything_sound (h : TilesSound s) : TilesSound (markEverything s) where
  checked := h.checked
  sized := (keeps_of_videoFrame (t := markEverything s) rfl (markEverything_shape s)).sized h.sized
  canonical := markEverything_canonical h.canonical
  coherent := markEverything_coherent h.sized

/-- Behind the rendering of the tile layers no step of a frame writes one. -/
theorem renderFrame_coherent (h : TilesSound s) (fullRefresh : Bool) :
    (renderFrame fullRefresh s).coherent := by
  have hmark : TilesSound (if fullRefresh then markEverything s else s) := by
    split_ifs
    exacts [markEverything_sound h, h]
  have hbefore : KeepsTiles (renderAllTiles (if fullRefresh then markEverything s else s))
      (beforeRoad fullRefresh s) :=
    ((spriteRefresh_keepsTiles .big0 _).trans (spriteRefresh_keepsTiles .big1 _)).trans
      (keepsTiles_of_framesOnly (((scrollComp_framesOnly _).trans (composite0_framesOnly _)).trans
        (composite1_framesOnly _)))
  rw [renderFrame_eq]
  exact ((hbefore.trans (keepsTiles_of_passFrame (roadPass_frame false _))).trans
    ⟨rfl, rfl, rfl, rfl⟩ : KeepsTiles _ (framePresent _)).coherent (renderAllTiles_sound hmark).coherent

/-- A changed byte makes its pair dirty, so a pair still clean has its old bytes (R211). -/
theorem storeTracked_coherent {n : Nat} {d : Byte} (hn : n < tl.dirty.length)
    (h : LayerCoherent s tc tl) :
    LayerCoherent s tc { tl with
      vram := (storeTracked tl.vram tl.dirty n d).1
      dirty := (storeTracked tl.vram tl.dirty n d).2 } := by
  obtain ⟨_, he⟩ | ⟨_, he⟩ := storeTracked_cases tl.vram tl.dirty n d <;> rw [he]
  · exact h
  · intro k hk hclean
    have hold {a : Nat} (ha : ¬dirtyBit (markDirty tl.dirty n) a = true) :
        a ≠ n ∧ ¬dirtyBit tl.dirty a = true := by
      rw [dirtyBit_markDirty hn] at ha
      split_ifs at ha with hne
      · exact absurd rfl ha
      · exact ⟨hne, ha⟩
    obtain ⟨hlo, hhi⟩ := not_or.1 hclean
    intro r hr c hc
    dsimp only
    rw [Memory.read_write_ne _ _ _ _ (hold hlo).1, Memory.read_write_ne _ _ _ _ (hold hhi).1]
    exact h k hk (not_or.2 ⟨(hold hlo).2, (hold hhi).2⟩) r hr c hc

theorem vramWr_coherent (h : TilesSound s) (L : BitVec 3) (n : BitVec 16) (d : Byte) :
    Yields State.coherent (execVramWr L n d s) := by
  unfold execVramWr
  split
  · exact .next h.coherent
  · next tc tl hlayer =>
    obtain ⟨htc, htl⟩ := (tile?_eq_some s).1 hlayer
    obtain ⟨hlen, _⟩ := layer_sized h.sized htc htl
    split_ifs with hn
    · refine .next (setTile_coherent h.coherent fun tc' htc' => ?_)
      obtain rfl := Option.some.inj (htc.symm.trans htc')
      exact storeTracked_coherent (by omega) ((coherent_iff s).1 h.coherent _ tc tl htc htl)
    · exact .next h.coherent

/-- A toggled monitor's layers are wholly dirty, and for the others the palette-bank bit is as it was
(R218). -/
theorem palbankWr_coherent (h : TilesSound s) (d : Byte) :
    (markToggled (bankToggled d s) { s with palbank := d }).coherent := by
  obtain ⟨hframe, hlength⟩ := markToggled_dirtyOnly (bankToggled d s) { s with palbank := d }
  rw [coherent_iff]
  intro L tc tl htc htl
  have htc : s.cfg.tiles[L]? = some tc := by rwa [hframe] at htc
  obtain ⟨old, hold⟩ : ∃ old, s.tiles[L]? = some old := by
    obtain ⟨hL, _⟩ := List.getElem?_eq_some_iff.1 htl
    exact ⟨_, List.getElem?_eq_getElem (hlength ▸ hL)⟩
  have hmarked := markToggled_tile (s := { s with palbank := d }) (bankToggled d s) htc hold
  obtain rfl := Option.some.inj (hmarked.symm.trans htl)
  by_cases htoggled : bankToggled d s tc.mon = true
  · obtain ⟨hlen, _⟩ := layer_sized h.sized htc hold
    rw [markWhere, if_pos htoggled]
    exact layerCoherent_of_allDirty hlen
  · rw [markWhere_false htoggled]
    rw [bankToggled_iff, not_not] at htoggled
    refine fun k hk hclean => pairShown_congr (s := s) ?_ ?_
      ((coherent_iff s).1 h.coherent L tc old htc hold k hk hclean) <;> rw [hframe]
    exact htoggled

theorem seqReset_coherent (s : State) : Yields State.coherent (execSeqReset s) := by
  unfold execSeqReset
  split
  · rintro t ⟨⟩
  · exact .next (fresh_coherent s.cfg (.draw s.clock))

end TilesSound

/-- Every operation keeps the coherence: six write the tile layers, the palette bank or the colour tables,
and the others none of these. -/
theorem exec_coherent {s : State} (h : TilesSound s) (hbuilt : s.tablesBuilt) (i : Instr) :
    Yields State.coherent (exec i s) := by
  have keeps {r : Result} (hr : Yields (KeepsTiles s) r) : Yields State.coherent r :=
    hr.mono fun _ ht => ht.coherent h.coherent
  have bank {r : Result} (hr : Yields (BankOnly s) r) : Yields State.coherent r :=
    keeps (hr.mono fun _ => keepsTiles_of_bankOnly)
  have frames {t : State} (ht : FramesOnly s t) : Yields State.coherent (.next t) :=
    keeps (.next (keepsTiles_of_framesOnly ht))
  have road {t : State} (ht : PassFrame s t) : Yields State.coherent (.next t) :=
    keeps (.next (keepsTiles_of_passFrame ht))
  have read (hi : ReadOp i) : Yields State.coherent (exec i s) := keeps (readOp_keepsTiles s hi)
  cases i with
  | seqReset => exact seqReset_coherent s
  | seqFrame fullRefresh => exact .next (renderFrame_coherent h _)
  | tileRender L => exact .next (tileRender_coherent h _)
  | vramWr L n d => exact vramWr_coherent h L n d
  | ctlPalbankWr d => exact .next (palbankWr_coherent h d)
  | palCtBuild g => exact keeps (palCtBuild_keepsTiles s g hbuilt.2)
  | seqCollOnly => exact road (roadPass_frame true s)
  | seqScrollComp => exact frames (scrollComp_framesOnly s)
  | sprRefresh S => exact keeps (sprRefresh_keepsTiles s S)
  | sprComposite0 => exact frames (composite0_framesOnly s)
  | sprComposite1 => exact frames (composite1_framesOnly s)
  | roadParams => exact road (roadParams_pass s)
  | roadLine minimal y => exact road (roadLine_frame _ _ s).pass
  | ppiInit n => exact bank (ppiInit_bankOnly n s)
  | ppiWrA c d => exact bank (writePort_bankOnly c .a d s)
  | ppiWrB c d => exact bank (writePort_bankOnly c .b d s)
  | ppiWrC c d => exact bank (writePort_bankOnly c .c d s)
  | ppiWrMode c ga da dcu gb db dcl => exact bank (ppiWrMode_bankOnly c ga da dcu gb db dcl s)
  | ppiWrBsr c x n b => exact bank (ppiWrBsr_bankOnly c x n b s)
  | palBuild => exact keeps (.next ⟨rfl, rfl, rfl, rfl⟩)
  | nvExport => exact keeps (.next ⟨rfl, rfl, rfl, rfl⟩)
  | nvImport => exact keeps (.next ⟨rfl, rfl, rfl, rfl⟩)
  | nvWr n d => exact keeps (rangedWrite_keepsTiles s ⟨rfl, rfl, rfl, rfl⟩)
  | protWr13 d => exact keeps (.next ⟨rfl, rfl, rfl, rfl⟩)
  | protWr o d => exact keeps (protWr_keepsTiles s o d)
  | sndLatchWr n d => exact keeps (.ite (.next ⟨rfl, rfl, rfl, rfl⟩) (.next ⟨rfl, rfl, rfl, rfl⟩))
  | sndSpeechResetWr level =>
    exact keeps (.next (keepsTiles_of_told (speechLine_cases _ _ _) ⟨rfl, rfl, rfl, rfl⟩))
  | sndSpeechStartWr level =>
    exact keeps (.next (keepsTiles_of_told (speechLine_cases _ _ _) ⟨rfl, rfl, rfl, rfl⟩))
  | sndSpeechVcuWr level =>
    exact keeps (.next (keepsTiles_of_told (speechLine_cases _ _ _) ⟨rfl, rfl, rfl, rfl⟩))
  | sndSpeechDataWr d =>
    exact keeps (.next (keepsTiles_of_told (speechLine_cases _ _ _) ⟨rfl, rfl, rfl, rfl⟩))
  | sndCpuResetWr d =>
    exact keeps (.next (keepsTiles_of_told (soundCpuReset_cases _ _) ⟨rfl, rfl, rfl, rfl⟩))
  | sprRamWr S n d => exact keeps (sprRamWr_keepsTiles s S n d)
  | sprCtrlWr S r d => exact keeps (sprCtrlWr_keepsTiles s S r d)
  | roadCollClr => exact keeps (.next ⟨rfl, rfl, rfl, rfl⟩)
  | roadRegWr k d => exact keeps (roadRegWr_keepsTiles s k d)
  | roadSprWr n d => exact keeps (rangedWrite_keepsTiles s ⟨rfl, rfl, rfl, rfl⟩)
  | ctlScrollWr n d => exact keeps (rangedWrite_keepsTiles s ⟨rfl, rfl, rfl, rfl⟩)
  | ppiRdA c => exact read (.ppiA c)
  | ppiRdB c => exact read (.ppiB c)
  | ppiRdC c => exact read (.ppiC c)
  | ppiRdCtrl c => exact read (.ppiCtrl c)
  | protRd13 => exact read .prot13
  | protRd o => exact read (.prot o)
  | sndLatchRd n => exact read (.sndLatch n)
  | vramRd L n => exact read (.vram L n)
  | sprRamRd S n => exact read (.sprRam S n)
  | sprCtrlRd S r => exact read (.sprCtrl S r)
  | roadCollRd => exact read .roadColl
  | roadRegRd k => exact read (.roadReg k)
  | roadSprRd n => exact read (.roadSpr n)
  | ctlPalbankRd => exact read .palbank
  | ctlScrollRd n => exact read (.scroll n)
  | nvRd n => exact read (.nv n)
  | inpRd n => exact read (.inp n)
  | busOor unit w => exact keeps (.ite (.next ⟨rfl, rfl, rfl, rfl⟩) (keepsTiles_oorWrite s))

/-- Settles O27: taking a request touches no layer, and every operation keeps the coherence. -/
theorem stepKeepsTileCoherence : Obligations.StepKeepsTileCoherence := by
  intro s t hchecked hsized hcanonical hbuilt hcoherent hstep
  obtain ⟨_, rfl⟩ | ⟨r, rest, _, ⟨_, rfl⟩ | ⟨tw, _, hexec⟩⟩ := step_next hstep
  · exact hcoherent
  · exact hcoherent
  · exact exec_coherent (s := takeRequest s r rest) ⟨hchecked, hsized, hcanonical, hcoherent⟩ hbuilt
      (decode tw) t hexec

end Sys2Proof.Proofs
end

section
/-!
PROOFS. The bus accesses of the sprite layers: the sprite RAM (R231, R232, R246) and the control registers
(R243, R245, R246).
-/

namespace Sys2Proof.Proofs

open Sys2Proof Sys2Proof.Machine

/-! ### The layer of a one-bit operand -/

section Operand

variable (s : State) (S : BitVec 1)

theorem spriteCfg_spriteOf :
    s.spriteCfg (spriteOf S) = if S = 0 then s.cfg.spr0 else s.cfg.spr1 := by
  unfold spriteOf
  split <;> rfl

theorem sprite_spriteOf : s.sprite (spriteOf S) = if S = 0 then s.spr0 else s.spr1 := by
  unfold spriteOf
  split <;> rfl

theorem setSprite_spriteOf (sl : SpriteLayer) : s.setSprite (spriteOf S) sl =
    if S = 0 then { s with spr0 := sl } else { s with spr1 := sl } := by
  unfold spriteOf
  split <;> rfl

/-- Putting a sprite layer back where it stands changes nothing. -/
theorem setSprite_self (S : SpriteId) : s.setSprite S (s.sprite S) = s := by
  cases S <;> rfl

end Operand

/-! ### The sprite RAM (R231, R232, R246) -/

section SpriteRam

variable {s : State} {S : BitVec 1} {n : BitVec 15} {d : Byte}

theorem exec_sprRamRd_in_range (hn : n.toNat < spriteRamSize (s.spriteCfg (spriteOf S))) :
    exec (.sprRamRd S n) s = .next (s.ret ((s.sprite (spriteOf S)).ram.read n.toNat)) := if_pos hn

theorem exec_sprRamWr_in_range (hn : n.toNat < spriteRamSize (s.spriteCfg (spriteOf S))) :
    exec (.sprRamWr S n d) s = .next (s.setSprite (spriteOf S) { s.sprite (spriteOf S) with
      ram := (storeTracked (s.sprite (spriteOf S)).ram (s.sprite (spriteOf S)).dirty n.toNat d).1
      dirty := (storeTracked (s.sprite (spriteOf S)).ram (s.sprite (spriteOf S)).dirty
        n.toNat d).2 }) := if_pos hn

theorem exec_sprRam_out_of_range (hn : spriteRamSize (s.spriteCfg (spriteOf S)) ≤ n.toNat) :
    exec (.sprRamRd S n) s = oorRead s ∧ exec (.sprRamWr S n d) s = oorWrite s :=
  ⟨if_neg (Nat.not_lt.2 hn), if_neg (Nat.not_lt.2 hn)⟩

/-- The value-equality rule: the byte already held is not stored (R231). -/
theorem exec_sprRamWr_same (hn : n.toNat < spriteRamSize (s.spriteCfg (spriteOf S)))
    (hd : d = (s.sprite (spriteOf S)).ram.read n.toNat) : exec (.sprRamWr S n d) s = .next s := by
  rw [exec_sprRamWr_in_range hn, storeTracked, if_pos hd]
  exact congrArg _ (setSprite_self s _)

theorem exec_sprRamWr_changed (hn : n.toNat < spriteRamSize (s.spriteCfg (spriteOf S)))
    (hd : d ≠ (s.sprite (spriteOf S)).ram.read n.toNat) :
    exec (.sprRamWr S n d) s = .next (s.setSprite (spriteOf S) { s.sprite (spriteOf S) with
      ram := (s.sprite (spriteOf S)).ram.write n.toNat d
      dirty := markDirty (s.sprite (spriteOf S)).dirty n.toNat }) := by
  rw [exec_sprRamWr_in_range hn, storeTracked, if_neg hd]

end SpriteRam

/-- Settles O28: the tracked store has two branches, and the one that stores sets the one bit. -/
theorem spriteRam : Obligations.SpriteRam := by
  intro s S n d
  simp only [← spriteCfg_spriteOf, ← sprite_spriteOf, ← setSprite_spriteOf]
  refine ⟨exec_sprRam_out_of_range, fun hn =>
    ⟨exec_sprRamRd_in_range hn, exec_sprRamWr_same hn, fun hd hwf hlen => ?_⟩⟩
  exact ⟨_, exec_sprRamWr_changed hn hd, rfl, fun a => memory_read_write hwf _ a d,
    dirtyBit_markDirty (by omega)⟩

/-! ### The control registers (R243, R245, R246) -/

section Control

variable (r : BitVec 15) (d : Byte) (s : State)

theorem exec_sprCtrlWr_zero : exec (.sprCtrlWr 0 r d) s =
    if h : r.toNat < 8 then .next { s with bsctrl := s.bsctrl.set r.toNat d } else oorWrite s := rfl

theorem exec_sprCtrlRd_zero : exec (.sprCtrlRd 0 r) s =
    if h : r.toNat < 8 then .next (s.ret s.bsctrl[r.toNat]) else oorRead s := rfl

theorem exec_sprCtrlWr_one : exec (.sprCtrlWr 1 r d) s =
    if h : r.toNat < 5 then .next { s with bs2ctrl := s.bs2ctrl.set r.toNat d } else oorWrite s := rfl

theorem exec_sprCtrlRd_one : exec (.sprCtrlRd 1 r) s =
    if h : r.toNat < 5 then .next (s.ret s.bs2ctrl[r.toNat]) else oorRead s := rfl

end Control

/-- Settles O29: the operand S picks the register file, and the range check is that file's size. -/
theorem spriteControl : Obligations.SpriteControl := by
  intro s r d
  rw [exec_sprCtrlWr_zero, exec_sprCtrlRd_zero, exec_sprCtrlWr_one, exec_sprCtrlRd_one]
  exact ⟨fun h => ⟨dif_pos h, dif_pos h⟩, fun h => ⟨dif_pos h, dif_pos h⟩,
    fun h => ⟨dif_neg (Nat.not_lt.2 h), dif_neg (Nat.not_lt.2 h)⟩,
    fun h => ⟨dif_neg (Nat.not_lt.2 h), dif_neg (Nat.not_lt.2 h)⟩⟩

end Sys2Proof.Proofs
end

section
/-!
PROOFS. SPR.REFRESH cell by cell (R233 to R235): the cells stand row-major, 16 to a row, so a drawn cell
shows in its own place and in no other.
-/

namespace Sys2Proof.Proofs

open Sys2Proof Sys2Proof.Machine

/-! ### The places of the cells -/

/-- Of two different places on a line of cells `w` wide, one ends before the other begins. -/
theorem places_apart {w a b : Nat} (h : a ≠ b) : w * a + w ≤ w * b ∨ w * b + w ≤ w * a := by
  obtain hlt | hlt := Nat.lt_or_gt_of_ne h
  · exact .inl (Nat.mul_le_mul_left w hlt)
  · exact .inr (Nat.mul_le_mul_left w hlt)

theorem place_inside {w a n : Nat} (h : a < n) : w * a + w ≤ n * w := by
  rw [Nat.mul_comm n w]
  exact Nat.mul_le_mul_left w h

/-- Where `DrawCell` puts pixel (r, c) of cell k (R235). -/
def spriteTarget (s : State) (sc : SpriteCfg) (ram : Memory) (k r c : Nat) : Nat × Nat :=
  cellTarget sc.cellW (spriteCell s sc ram k).flip (sc.cellW * (k % 16)) (sc.cellH * (k / 16)) (r, c)

/-- `DrawCell` of cell k of a sprite RAM (R235). -/
def drawSprite (s : State) (sc : SpriteCfg) (ram : Memory) (k : Nat) (p : Pixmap) : Pixmap :=
  drawCell sc.cellW sc.cellH (spritePixel s sc (spriteCell s sc ram k))
    (spriteCell s sc ram k).flip (sc.cellW * (k % 16)) (sc.cellH * (k / 16)) p

section DrawSprite

variable (s : State) (sc : SpriteCfg) (ram : Memory)

/-- A cell's pixels stay in its place, flipped or not. -/
theorem spriteTarget_within (k : Nat) {r c : Nat} (hr : r < sc.cellH) (hc : c < sc.cellW) :
    (sc.cellW * (k % 16) ≤ (spriteTarget s sc ram k r c).1 ∧
      (spriteTarget s sc ram k r c).1 < sc.cellW * (k % 16) + sc.cellW) ∧
    sc.cellH * (k / 16) ≤ (spriteTarget s sc ram k r c).2 ∧
      (spriteTarget s sc ram k r c).2 < sc.cellH * (k / 16) + sc.cellH := by
  unfold spriteTarget cellTarget
  split_ifs <;> refine ⟨⟨?_, ?_⟩, ?_, ?_⟩ <;> dsimp only <;> omega

theorem drawSprite_get_target {k : Nat} {p : Pixmap} {r c : Nat} (hk : k < 16 * sc.rows)
    (hr : r < sc.cellH) (hc : c < sc.cellW) (hp : p.wf) (hwidth : p.width = 16 * sc.cellW)
    (hheight : p.height = sc.rows * sc.cellH) :
    (drawSprite s sc ram k p).get (spriteTarget s sc ram k r c).1 (spriteTarget s sc ram k r c).2 =
      spritePixel s sc (spriteCell s sc ram k) r c := by
  obtain ⟨⟨_, hx⟩, _, hy⟩ := spriteTarget_within s sc ram k hr hc
  have hcolumn : sc.cellW * (k % 16) + sc.cellW ≤ 16 * sc.cellW := place_inside (by omega)
  have hrow : sc.cellH * (k / 16) + sc.cellH ≤ sc.rows * sc.cellH := place_inside (by omega)
  have hcovers : p.covers (spriteTarget s sc ram k r c).1 (spriteTarget s sc ram k r c).2 = true :=
    (p.covers_iff _ _).2 ⟨by omega, by omega⟩
  exact drawCell_get_inside _ _ _ _ p hr hc hp hcovers

/-- Drawing one cell leaves the places of the others: they differ in their column or in their row. -/
theorem drawSprite_get_other {j k : Nat} (p : Pixmap) {r c : Nat} (hr : r < sc.cellH)
    (hc : c < sc.cellW) (hne : j ≠ k) :
    (drawSprite s sc ram j p).get (spriteTarget s sc ram k r c).1 (spriteTarget s sc ram k r c).2 =
      p.get (spriteTarget s sc ram k r c).1 (spriteTarget s sc ram k r c).2 := by
  obtain ⟨⟨hx, hx'⟩, hy, hy'⟩ := spriteTarget_within s sc ram k hr hc
  refine drawCell_get_outside _ _ _ _ p ?_
  obtain hcolumn | hrow : j % 16 ≠ k % 16 ∨ j / 16 ≠ k / 16 := by omega
  · have hapart := places_apart (w := sc.cellW) hcolumn
    omega
  · have hapart := places_apart (w := sc.cellH) hrow
    omega

end DrawSprite

/-! ### One cell (R233) -/

/-- One of the four bytes of cell `k` is dirty (R233). -/
abbrev CellDirty (sl : SpriteLayer) (k : Nat) : Prop := ∃ i < 4, dirtyBit sl.dirty (4 * k + i) = true

theorem anyDirty_iff (d : List Bool) (n k : Nat) :
    anyDirty d n k = true ↔ ∃ i < k, dirtyBit d (n + i) = true := by
  simp [anyDirty]

section RefreshCell

variable (s : State) (sc : SpriteCfg) (sl : SpriteLayer)

theorem refreshCell_ram (k : Nat) : (refreshCell s sc sl k).ram = sl.ram := by
  obtain h | h := refreshCell_cases s sc sl k <;> rw [h]

theorem refreshCell_of_dirty {k : Nat} (h : CellDirty sl k) : refreshCell s sc sl k = { sl with
    bitmap := drawSprite s sc sl.ram k sl.bitmap, dirty := clearFrom sl.dirty (4 * k) 4 } :=
  if_pos ((anyDirty_iff _ _ _).2 h)

theorem refreshCell_of_clean {k : Nat} (h : ¬CellDirty sl k) : refreshCell s sc sl k = sl :=
  if_neg (mt (anyDirty_iff _ _ _).1 h)

/-- A cell is clean after its iteration, whatever it was before. -/
theorem refreshCell_dirtyBit (k m : Nat) : dirtyBit (refreshCell s sc sl k).dirty m =
    (dirtyBit sl.dirty m && !(decide (4 * k ≤ m) && decide (m < 4 * k + 4))) := by
  by_cases hdirty : CellDirty sl k
  · rw [refreshCell_of_dirty s sc sl hdirty]
    exact dirtyBit_clearFrom _ _ _ _
  · rw [refreshCell_of_clean s sc sl hdirty]
    by_cases hm : 4 * k ≤ m ∧ m < 4 * k + 4
    · have hbit : dirtyBit sl.dirty m = false := by
        by_contra hset
        refine hdirty ⟨m - 4 * k, by omega, ?_⟩
        rw [Nat.add_sub_cancel' hm.1]
        exact Bool.eq_true_of_not_eq_false hset
      rw [hbit, Bool.false_and]
    · rw [← Bool.decide_and, decide_eq_false hm, Bool.not_false, Bool.and_true]

end RefreshCell

/-! ### The first `n` cells (R233) -/

/-- Where `p` fails at `n`, one index more takes in nothing new. -/
theorem lt_succ_and_iff {k n : Nat} {p : Prop} (h : k = n → ¬p) : k < n + 1 ∧ p ↔ k < n ∧ p := by
  rw [Nat.lt_succ_iff_lt_or_eq]
  tauto

/-- The layer after the first `n` iterations of SPR.REFRESH. -/
def refreshFirst (s : State) (sc : SpriteCfg) (sl : SpriteLayer) (n : Nat) : SpriteLayer :=
  (List.range n).foldl (refreshCell s sc) sl

section RefreshFirst

variable (s : State) (sc : SpriteCfg) (sl : SpriteLayer)

theorem refreshLayer_eq_refreshFirst :
    refreshLayer s sc sl = refreshFirst s sc sl (16 * sc.rows) := rfl

theorem refreshFirst_succ (n : Nat) :
    refreshFirst s sc sl (n + 1) = refreshCell s sc (refreshFirst s sc sl n) n := by
  rw [refreshFirst, List.range_succ, List.foldl_append]
  rfl

theorem refreshFirst_ram (n : Nat) : (refreshFirst s sc sl n).ram = sl.ram :=
  foldl_keeps (P := fun u : SpriteLayer => u.ram = sl.ram) _ sl
    (fun u k _ hu => (refreshCell_ram s sc u k).trans hu) rfl

/-- The cells refreshed so far are clean, and no other bit has changed. -/
theorem refreshFirst_dirtyBit (n m : Nat) : dirtyBit (refreshFirst s sc sl n).dirty m =
    (dirtyBit sl.dirty m && decide (4 * n ≤ m)) := by
  induction n with
  | zero => simp [refreshFirst]
  | succ n ih =>
    rw [refreshFirst_succ, refreshCell_dirtyBit, ih, Bool.and_assoc]
    congr 1
    rw [Bool.eq_iff_iff]
    simp only [Bool.and_eq_true, Bool.not_eq_true', Bool.and_eq_false_iff, decide_eq_true_eq,
      decide_eq_false_iff_not]
    omega

/-- A cell is drawn or skipped by its dirty bits at the start. -/
theorem cellDirty_refreshFirst (n : Nat) : CellDirty (refreshFirst s sc sl n) n ↔ CellDirty sl n := by
  simp [CellDirty, refreshFirst_dirtyBit]

variable {s sc sl}

/-- The bitmap keeps its canonical form and its size. -/
theorem refreshFirst_bitmap (n : Nat) (hwf : sl.bitmap.wf) :
    (refreshFirst s sc sl n).bitmap.wf ∧
      pixmapDims (refreshFirst s sc sl n).bitmap = pixmapDims sl.bitmap := by
  refine foldl_keeps (P := fun u : SpriteLayer => u.bitmap.wf ∧
    pixmapDims u.bitmap = pixmapDims sl.bitmap) _ sl (fun u k _ ⟨hu, hdims⟩ => ?_) ⟨hwf, rfl⟩
  obtain h | h := refreshCell_cases s sc u k <;> rw [h]
  · exact ⟨hu, hdims⟩
  · exact ⟨drawCell_wf _ _ _ _ _ _ hu, (pixmapDims_drawCell ..).trans hdims⟩

/-- After the first `n` iterations the dirty ones of the first `n` cells show what `DrawCell` draws, and
every other cell is as it was. -/
theorem refreshFirst_get (hwidth : sl.bitmap.width = 16 * sc.cellW)
    (hheight : sl.bitmap.height = sc.rows * sc.cellH) (hwf : sl.bitmap.wf) {k : Nat}
    (hk : k < 16 * sc.rows) {r c : Nat} (hr : r < sc.cellH) (hc : c < sc.cellW) (n : Nat) :
    (refreshFirst s sc sl n).bitmap.get (spriteTarget s sc sl.ram k r c).1
        (spriteTarget s sc sl.ram k r c).2 =
      if k < n ∧ CellDirty sl k then spritePixel s sc (spriteCell s sc sl.ram k) r c
      else sl.bitmap.get (spriteTarget s sc sl.ram k r c).1 (spriteTarget s sc sl.ram k r c).2 := by
  induction n with
  | zero => rfl
  | succ n ih =>
    rw [refreshFirst_succ]
    by_cases hdirty : CellDirty sl n
    · rw [refreshCell_of_dirty _ _ _ ((cellDirty_refreshFirst s sc sl n).2 hdirty), refreshFirst_ram]
      by_cases hkn : k = n
      · subst hkn
        obtain ⟨hwfk, hdims⟩ := refreshFirst_bitmap (s := s) (sc := sc) k hwf
        obtain ⟨hwidthk, hheightk⟩ := Prod.mk.inj hdims
        rw [if_pos ⟨Nat.lt_succ_self k, hdirty⟩]
        exact drawSprite_get_target s sc sl.ram hk hr hc hwfk (hwidthk.trans hwidth)
          (hheightk.trans hheight)
      · rw [drawSprite_get_other s sc sl.ram _ hr hc (Ne.symm hkn), ih]
        rw [if_congr (lt_succ_and_iff (absurd · hkn)) rfl rfl]
    · rw [refreshCell_of_clean _ _ _ (mt (cellDirty_refreshFirst s sc sl n).1 hdirty), ih]
      rw [if_congr (lt_succ_and_iff fun hkn => hkn ▸ hdirty) rfl rfl]

end RefreshFirst

/-! ### The whole layer (R233) -/

section RefreshLayer

variable {s : State} {sc : SpriteCfg} {sl : SpriteLayer}

/-- Every bit of the map belongs to some cell, so all are cleared. -/
theorem refreshLayer_dirty (hlen : sl.dirty.length = spriteRamSize sc) :
    (refreshLayer s sc sl).dirty = List.replicate (spriteRamSize sc) false := by
  have hlength : (refreshLayer s sc sl).dirty.length = spriteRamSize sc :=
    (Prod.mk.inj (refreshLayer_dims s sc sl)).1.trans hlen
  refine List.eq_replicate_iff.2 ⟨hlength, fun b hb => ?_⟩
  obtain ⟨m, hm, rfl⟩ := List.getElem_of_mem hb
  have hpassed : ¬4 * (16 * sc.rows) ≤ m := by
    rw [spriteRamSize] at hlength
    omega
  have hbit := refreshFirst_dirtyBit s sc sl (16 * sc.rows) m
  rw [← refreshLayer_eq_refreshFirst, decide_eq_false hpassed, Bool.and_false] at hbit
  simpa [dirtyBit, hm] using hbit

/-- Refreshing changes the dirty map and the bitmap alone. -/
theorem refreshLayer_eq (hlen : sl.dirty.length = spriteRamSize sc) :
    refreshLayer s sc sl = { sl with
      dirty := List.replicate (spriteRamSize sc) false
      bitmap := (refreshLayer s sc sl).bitmap } := by
  rw [← refreshLayer_dirty (s := s) hlen, ← refreshLayer_ram s sc sl]

/-- Every pixel of every cell: a dirty cell shows what `DrawCell` draws, a clean one what it showed. -/
theorem refreshLayer_get (hsized : sl.sizedBy sc) (hwf : sl.bitmap.wf) {k : Nat}
    (hk : k < 16 * sc.rows) {r c : Nat} (hr : r < sc.cellH) (hc : c < sc.cellW) :
    (refreshLayer s sc sl).bitmap.get (spriteTarget s sc sl.ram k r c).1
        (spriteTarget s sc sl.ram k r c).2 =
      if CellDirty sl k then spritePixel s sc (spriteCell s sc sl.ram k) r c
      else sl.bitmap.get (spriteTarget s sc sl.ram k r c).1 (spriteTarget s sc sl.ram k r c).2 := by
  obtain ⟨_, hwidth, hheight⟩ := hsized
  simpa only [refreshLayer_eq_refreshFirst, hk, true_and] using
    refreshFirst_get (s := s) hwidth hheight hwf hk hr hc (16 * sc.rows)

end RefreshLayer

theorem spriteTarget_eq (s : State) (sc : SpriteCfg) (ram : Memory) (k r c : Nat) :
    spriteTarget s sc ram k r c =
      (sc.cellW * (k % 16) + (if ram.read (4 * k + 3) &&& sc.flipMask = 0 then c else sc.cellW - 1 - c),
        sc.cellH * (k / 16) + r) := by
  by_cases h : ram.read (4 * k + 3) &&& sc.flipMask = 0 <;>
    simp [spriteTarget, cellTarget, spriteCell, cellDecode, h]

theorem spriteRefresh_eq {s : State} {S : SpriteId}
    (hlen : (s.sprite S).dirty.length = spriteRamSize (s.spriteCfg S)) :
    spriteRefresh S s = s.setSprite S { s.sprite S with
      dirty := List.replicate (spriteRamSize (s.spriteCfg S)) false
      bitmap := (refreshLayer s (s.spriteCfg S) (s.sprite S)).bitmap } :=
  congrArg (s.setSprite S) (refreshLayer_eq hlen)

theorem exec_sprRefresh_layer (S : BitVec 1) (s : State) :
    exec (.sprRefresh (S.setWidth 3)) s = .next (spriteRefresh (spriteOf S) s) := by
  obtain rfl | rfl : S = 0 ∨ S = 1 := by decide +revert
  · rfl
  · rfl

theorem exec_sprRefresh_no_layer {S : BitVec 3} (h : 2 ≤ S.toNat) (s : State) :
    exec (.sprRefresh S) s = .next s := by
  have h0 : S ≠ 0 := by rintro rfl; exact absurd h (by decide)
  have h1 : S ≠ 1 := by rintro rfl; exact absurd h (by decide)
  exact (if_neg h0).trans (if_neg h1)

/-- Settles O30: refreshing replaces the layer by `refreshLayer` of it.  It is named under `Refresh` so that
`spriteRefresh` alone still means the model's. -/
theorem Refresh.spriteRefresh : Obligations.SpriteRefresh := by
  refine fun s => ⟨fun S => ?_, fun _ h => exec_sprRefresh_no_layer h s⟩
  simp only [← spriteCfg_spriteOf, ← sprite_spriteOf, ← setSprite_spriteOf]
  intro hlen
  obtain ⟨_, hdims⟩ := Prod.mk.inj (refreshLayer_dims s (s.spriteCfg (spriteOf S)) (s.sprite (spriteOf S)))
  obtain ⟨hwidth, hheight⟩ := Prod.mk.inj hdims
  refine ⟨_, (exec_sprRefresh_layer S s).trans (congrArg _ (spriteRefresh_eq hlen)), hwidth,
    hheight, fun hsized hwf k hk r hr c hc => ?_⟩
  have hget := refreshLayer_get (s := s) hsized hwf hk hr hc
  rw [spriteTarget_eq] at hget
  exact hget

end Sys2Proof.Proofs
end

section
/-!
PROOFS. The composites of the sprite layers, pixel by pixel: layer 0 takes for each visible pixel the source
pixel its transform names (R236 to R239), layer 1 puts each source pixel where it lands (R244).
-/

namespace Sys2Proof.Proofs

open Sys2Proof Sys2Proof.Machine

theorem mem_vis_iff (s : State) (m : Monitor) (x y : Nat) :
    (x, y) ∈ rectPixels (s.vis m) ↔ inVis s m x y := mem_rectPixels

/-! ### `Blit` (R239) -/

section Blit

variable (t : BsTransform) (s : State) (m : Monitor) (x y : Nat)

/-- The source pixel of layer 0 that `Blit` reads for destination (x, y), where there is one. -/
def blitRead : Nat :=
  s.spr0.bitmap.get (sourceOf t.startx t.incx x).toNat (sourceOf t.starty t.incy y).toNat

/-- Destination (x, y) is visible, and its source lies in the bitmap of layer 0 and is opaque. -/
def BlitShows : Prop :=
  inVis s m x y ∧
    0 ≤ sourceOf t.startx t.incx x ∧
    sourceOf t.startx t.incx x < (16 * s.cfg.spr0.cellW : Nat) ∧
    0 ≤ sourceOf t.starty t.incy y ∧
    sourceOf t.starty t.incy y < (s.cfg.spr0.rows * s.cfg.spr0.cellH : Nat) ∧
    blitRead t s x y ≠ transparent s.cfg

/-- What `Blit` writes at destination `d`: the source of layer 0 in full. -/
def layer0Source (d : Nat × Nat) : Option Nat :=
  blitSource t s.spr0.bitmap (16 * s.cfg.spr0.cellW) (s.cfg.spr0.rows * s.cfg.spr0.cellH)
    (transparent s.cfg) d

theorem blit_frame : (blit m t s).frame m =
    (rectPixels (s.vis m)).foldl (paint id (layer0Source t s)) (s.frame m) := by
  rw [blit, setFrame_frame_same, blitPixel_eq_paint]
  rfl

theorem layer0Source_eq : layer0Source t s (x, y) =
    if (0 ≤ sourceOf t.startx t.incx x ∧
        sourceOf t.startx t.incx x < (16 * s.cfg.spr0.cellW : Nat) ∧
        0 ≤ sourceOf t.starty t.incy y ∧
        sourceOf t.starty t.incy y < (s.cfg.spr0.rows * s.cfg.spr0.cellH : Nat)) ∧
      blitRead t s x y ≠ transparent s.cfg
    then some (blitRead t s x y) else none := rfl

variable {t s m x y}

theorem layer0Source_of_shows (h : BlitShows t s m x y) :
    layer0Source t s (x, y) = some (blitRead t s x y) := by
  obtain ⟨_, hu, hu', hv, hv', hopaque⟩ := h
  rw [layer0Source_eq, if_pos ⟨⟨hu, hu', hv, hv'⟩, hopaque⟩]

theorem shows_of_layer0Source (hvis : inVis s m x y) (h : layer0Source t s (x, y) ≠ none) :
    BlitShows t s m x y := by
  rw [layer0Source_eq, ite_ne_right_iff] at h
  obtain ⟨⟨⟨hu, hu', hv, hv'⟩, hopaque⟩, _⟩ := h
  exact ⟨hvis, hu, hu', hv, hv', hopaque⟩

theorem blit_get_shown (hwf : (s.frame m).wf) (hcovers : (s.frame m).covers x y = true)
    (h : BlitShows t s m x y) : ((blit m t s).frame m).get x y = blitRead t s x y := by
  have hsource := layer0Source_of_shows h
  rw [blit_frame]
  refine paint_get_inside id _ _ _ x y _ hwf hcovers ?_
    ⟨(x, y), (mem_vis_iff s m x y).2 h.1, rfl, hsource⟩
  rintro d - - rfl
  exact hsource

theorem blit_get_kept (h : ¬BlitShows t s m x y) :
    ((blit m t s).frame m).get x y = (s.frame m).get x y := by
  rw [blit_frame]
  refine paint_get_outside id _ _ _ x y ?_
  rintro d hd hsource rfl
  exact h (shows_of_layer0Source ((mem_vis_iff s m x y).1 hd) hsource)

end Blit

/-- The blit onto a monitor, where it is enabled. -/
def blitIf (on : Bool) (m : Monitor) (t : BsTransform) (s : State) : State :=
  if on then blit m t s else s

section BlitIf

variable (on on' : Bool) {m m' : Monitor} (t : BsTransform) (s : State)

theorem blitIf_framesOnly : FramesOnly s (blitIf on m t s) := by
  cases on
  · rfl
  · exact blit_framesOnly m t s

theorem blitIf_frame_other (h : m' ≠ m) : (blitIf on m t s).frame m' = s.frame m' := by
  cases on
  · rfl
  · exact setFrame_frame_ne s _ h

/-- A blit reads no frame but the one it writes. -/
theorem blit_frame_congr {u : State} (hframes : FramesOnly s u) (hm : u.frame m = s.frame m) :
    (blit m t u).frame m = (blit m t s).frame m := by
  rw [blit_frame, blit_frame, hm, hframes]
  rfl

/-- The other monitor's blit leaves this frame and everything this one's blit reads. -/
theorem blitIf_frame_after (h : m ≠ m') :
    (blitIf on m t (blitIf on' m' t s)).frame m = (blitIf on m t s).frame m := by
  have hother := blitIf_frame_other on' t s h
  cases on
  · exact hother
  · exact blit_frame_congr t s (blitIf_framesOnly on' t s) hother

end BlitIf

/-! ### SPR.COMPOSITE of layer 0 (R236 to R239) -/

/-- The enable bit of a monitor (R122). -/
def enables (f : BsFields) : Monitor → Bool
  | .top => f.enTop
  | .bottom => f.enBottom

theorem bsTransform_eq (c : BigSpriteCfg) (sbw : Nat) (sx sy : Int) (zoom : Nat) (flip : Bool) :
    bsTransform c sbw sx sy zoom flip =
      let startx0 := -sx * c.xUnit + c.alignX * zoom
      let incx0 : Int := ((openAt c.zoomStepX Config.freeZoomStepX zoom : ℕ+) : Nat)
      { startx := if flip then (sbw : Int) * 65536 - startx0 - 1 else startx0
        starty := -sy * c.yUnit + c.alignY * zoom
        incx := if flip then -incx0 else incx0
        incy := ((openAt c.zoomStepY Config.freeZoomStepY zoom : ℕ+) : Nat) } := by
  cases flip <;> rfl

/-- The transform SPR.COMPOSITE of layer 0 blits with (R237, R238). -/
def layer0Transform (s : State) : BsTransform :=
  let f := bsDecode s.cfg.bigSprite s.bsctrl
  bsTransform s.cfg.bigSprite (16 * s.cfg.spr0.cellW) (bsPosition s.cfg.bigSprite f).1
    (bsPosition s.cfg.bigSprite f).2 f.zoom f.flip

section Composite0

variable {s : State}

theorem composite0_of_zoom_zero (h : (bsDecode s.cfg.bigSprite s.bsctrl).zoom = 0) :
    composite0 s = s := if_pos h

theorem composite0_of_zoom (h : (bsDecode s.cfg.bigSprite s.bsctrl).zoom ≠ 0) : composite0 s =
    blitIf (bsDecode s.cfg.bigSprite s.bsctrl).enBottom .bottom (layer0Transform s)
      (blitIf (bsDecode s.cfg.bigSprite s.bsctrl).enTop .top (layer0Transform s) s) := if_neg h

/-- Each monitor is blitted as if it were the only one. -/
theorem composite0_frame (h : (bsDecode s.cfg.bigSprite s.bsctrl).zoom ≠ 0) (m : Monitor) :
    (composite0 s).frame m =
      (blitIf (enables (bsDecode s.cfg.bigSprite s.bsctrl) m) m (layer0Transform s) s).frame m := by
  rw [composite0_of_zoom h]
  cases m with
  | top => exact blitIf_frame_other _ _ _ (by decide)
  | bottom => exact blitIf_frame_after _ _ _ _ (by decide)

theorem composite0_frame_disabled {m : Monitor}
    (h : enables (bsDecode s.cfg.bigSprite s.bsctrl) m = false) :
    (composite0 s).frame m = s.frame m := by
  by_cases hzoom : (bsDecode s.cfg.bigSprite s.bsctrl).zoom = 0
  · rw [composite0_of_zoom_zero hzoom]
  · rw [composite0_frame hzoom, blitIf, if_neg (by simp [h])]

end Composite0

/-- Settles O31: each enabled monitor shows what `Blit` shows, under the transform written out. -/
theorem spriteCompositeZoomed : Obligations.SpriteCompositeZoomed := by
  intro s f b sbw sbh sx0 sx sy0 sy incx0 incy startx0 starty startx incx
  refine ⟨fun hzoom => congrArg _ (composite0_of_zoom_zero hzoom), composite0 s, rfl,
    composite0_framesOnly s, fun h => composite0_frame_disabled (m := .top) h,
    fun h => composite0_frame_disabled (m := .bottom) h, ?_⟩
  intro hzoom m htop hbottom hwf x y hcovers
  have henabled : enables f m = true := by
    cases m with
    | top => exact htop rfl
    | bottom => exact hbottom rfl
  have htransform : layer0Transform s = ⟨startx, starty, incx, incy⟩ := bsTransform_eq ..
  rw [composite0_frame hzoom, blitIf, if_pos henabled, htransform]
  exact ⟨fun h => blit_get_shown hwf hcovers h, fun h => blit_get_kept h⟩

/-! ### SPR.COMPOSITE of layer 1 (R244) -/

section Composite1

variable (s : State)

/-- The signed position of layer 1. -/
def layer1Position : Int × Int :=
  bs2Position s.cfg.bigSprite2 (bs2Decode s.cfg.bigSprite2 s.bs2ctrl)

/-- The x-flip bit of layer 1. -/
def layer1Flip : Bool := (bs2Decode s.cfg.bigSprite2 s.bs2ctrl).flip

/-- The column of the layer that source column u shows in: a flip mirrors the columns. -/
def layer1Column (u : Nat) : Nat := if layer1Flip s then 16 * s.cfg.spr1.cellW - 1 - u else u

/-- Source pixel (u, v) of layer 1 shows at frame pixel (x, y). -/
def Lands (u v x y : Nat) : Prop :=
  u < 16 * s.cfg.spr1.cellW ∧ v < s.cfg.spr1.rows * s.cfg.spr1.cellH ∧ inVis s s.cfg.spr1.mon x y ∧
    (x : Int) = (layer1Position s).1 + layer1Column s u ∧ (y : Int) = (layer1Position s).2 + v ∧
    s.spr1.bitmap.get u v ≠ transparent s.cfg

/-- Where source (v, u) of layer 1 is put. -/
def layer1Target (vu : Nat × Nat) : Nat × Nat :=
  placeTarget (16 * s.cfg.spr1.cellW) (layer1Position s).1 (layer1Position s).2 (layer1Flip s) vu

/-- What source (v, u) of layer 1 writes, if anything. -/
def layer1Source (vu : Nat × Nat) : Option Nat :=
  placeSource (s.vis s.cfg.spr1.mon) s.spr1.bitmap (16 * s.cfg.spr1.cellW) (transparent s.cfg)
    (layer1Position s).1 (layer1Position s).2 (layer1Flip s) vu

theorem composite1_frame : (composite1 s).frame s.cfg.spr1.mon =
    (cellPositions (16 * s.cfg.spr1.cellW) (s.cfg.spr1.rows * s.cfg.spr1.cellH)).foldl
      (paint (layer1Target s) (layer1Source s)) (s.frame s.cfg.spr1.mon) := by
  rw [composite1, setFrame_frame_same, placePixel_eq_paint]
  rfl

theorem composite1_frame_other {m : Monitor} (h : m ≠ s.cfg.spr1.mon) :
    (composite1 s).frame m = s.frame m := setFrame_frame_ne s _ h

theorem layer1Target_eq (u v : Nat) : layer1Target s (v, u) =
    (((layer1Position s).1 + layer1Column s u).toNat, ((layer1Position s).2 + v).toNat) := rfl

theorem layer1Source_eq (u v : Nat) : layer1Source s (v, u) =
    if rectHolds (s.vis s.cfg.spr1.mon) ((layer1Position s).1 + layer1Column s u)
        ((layer1Position s).2 + v) = true ∧ s.spr1.bitmap.get u v ≠ transparent s.cfg
    then some (s.spr1.bitmap.get u v) else none := rfl

theorem rectHolds_vis_iff (m : Monitor) (x y : Nat) :
    rectHolds (s.vis m) x y = true ↔ inVis s m x y := by
  rw [rectHolds_iff, inVis]
  omega

variable {s} {u v u' v' x y : Nat}

/-- No two source pixels land on one frame pixel. -/
theorem Lands.unique (h : Lands s u v x y) (h' : Lands s u' v' x y) : u = u' ∧ v = v' := by
  obtain ⟨hu, _, _, hx, hy, _⟩ := h
  obtain ⟨hu', _, _, hx', hy', _⟩ := h'
  have hcolumn : layer1Column s u = layer1Column s u' := by omega
  unfold layer1Column at hcolumn
  split_ifs at hcolumn <;> omega

theorem Lands.mem (h : Lands s u v x y) :
    (v, u) ∈ cellPositions (16 * s.cfg.spr1.cellW) (s.cfg.spr1.rows * s.cfg.spr1.cellH) := by
  obtain ⟨hu, hv, _⟩ := h
  exact mem_cellPositions.2 ⟨hv, hu⟩

theorem Lands.target (h : Lands s u v x y) : layer1Target s (v, u) = (x, y) := by
  obtain ⟨_, _, _, hx, hy, _⟩ := h
  rw [layer1Target_eq, ← hx, ← hy, Int.toNat_natCast, Int.toNat_natCast]

theorem Lands.source (h : Lands s u v x y) :
    layer1Source s (v, u) = some (s.spr1.bitmap.get u v) := by
  obtain ⟨_, _, hvis, hx, hy, hopaque⟩ := h
  rw [layer1Source_eq, ← hx, ← hy, if_pos ⟨(rectHolds_vis_iff s _ x y).2 hvis, hopaque⟩]

/-- Every pixel the loop writes at (x, y) lands there: a visible place has no negative coordinate, so
`Int.toNat` hides nothing. -/
theorem lands_of_source
    (hmem : (v, u) ∈ cellPositions (16 * s.cfg.spr1.cellW) (s.cfg.spr1.rows * s.cfg.spr1.cellH))
    (hsource : layer1Source s (v, u) ≠ none) (htarget : layer1Target s (v, u) = (x, y)) :
    Lands s u v x y := by
  obtain ⟨hv, hu⟩ := mem_cellPositions.1 hmem
  rw [layer1Source_eq, ite_ne_right_iff] at hsource
  obtain ⟨⟨hvis, hopaque⟩, _⟩ := hsource
  obtain ⟨hleft, _, hupper, _⟩ := rectHolds_iff.1 hvis
  obtain ⟨hx, hy⟩ := Prod.mk.inj ((layer1Target_eq s u v).symm.trans htarget)
  have hx : (x : Int) = (layer1Position s).1 + layer1Column s u := by omega
  have hy : (y : Int) = (layer1Position s).2 + v := by omega
  rw [← hx, ← hy] at hvis
  exact ⟨hu, hv, (rectHolds_vis_iff s _ x y).1 hvis, hx, hy, hopaque⟩

theorem composite1_get_landed (hwf : (s.frame s.cfg.spr1.mon).wf)
    (hcovers : (s.frame s.cfg.spr1.mon).covers x y = true) (h : Lands s u v x y) :
    ((composite1 s).frame s.cfg.spr1.mon).get x y = s.spr1.bitmap.get u v := by
  rw [composite1_frame]
  refine paint_get_inside _ _ _ _ x y _ hwf hcovers ?_ ⟨(v, u), h.mem, h.target, h.source⟩
  rintro ⟨v', u'⟩ hmem hsource htarget
  obtain ⟨rfl, rfl⟩ := h.unique (lands_of_source hmem hsource htarget)
  exact h.source

theorem composite1_get_kept (h : ¬∃ u v, Lands s u v x y) :
    ((composite1 s).frame s.cfg.spr1.mon).get x y = (s.frame s.cfg.spr1.mon).get x y := by
  rw [composite1_frame]
  refine paint_get_outside _ _ _ _ x y ?_
  rintro ⟨v, u⟩ hmem hsource htarget
  exact h ⟨u, v, lands_of_source hmem hsource htarget⟩

end Composite1

/-- Settles O32: a source pixel that lands is the only one that lands there, so no later one covers it. -/
theorem spriteCompositeUnzoomed : Obligations.SpriteCompositeUnzoomed := by
  intro s f b sx0 sx sy0 sy m w h lands
  exact ⟨composite1 s, rfl, composite1_framesOnly s, fun _ hm => composite1_frame_other s hm,
    fun hwf x y hcovers =>
      ⟨fun _ _ hlands => composite1_get_landed hwf hcovers hlands,
        fun hnone => composite1_get_kept hnone⟩⟩

end Sys2Proof.Proofs
end

section
/-!
PROOFS. The bus accesses of the road unit: the registers and the collision port (R109, R277 to R280) and the
road sprite RAM (R281, R282).
-/

namespace Sys2Proof.Proofs

open Sys2Proof Sys2Proof.Machine

/-! ### The collision port (R279, R280) -/

theorem exec_roadCollRd_eq (s : State) : exec .roadCollRd s = .next { s with
    trace := s.trace ++ [.busReturn (0#4 ++ s.collision)] } := by
  have hbyte : s.collision.setWidth 8 = 0#4 ++ s.collision := BitVec.setWidth_eq_append (by decide)
  show execRoadCollRd s = _
  rw [execRoadCollRd, hbyte, ret_eq]

/-- Settles O33: each number takes its own branch of the read and of the write, and 7 takes the last one. -/
theorem roadRegistersAndCollisionPort : Obligations.RoadRegistersAndCollisionPort := by
  intro s d
  have hread : exec (.roadRegRd 7) s = oorRead s := rfl
  have hwrite : exec (.roadRegWr 7 d) s = oorWrite s := rfl
  exact ⟨rfl, rfl, rfl, rfl, rfl, rfl, hwrite, rfl, rfl, rfl, rfl, rfl, rfl, hread,
    exec_roadCollRd_eq s, rfl⟩

/-- Settles O34: in range the accesses are the memory's own, beyond it the out-of-range outcomes. -/
theorem roadSpriteRam : Obligations.RoadSpriteRam := by
  intro s n d hwf
  exact ⟨fun hin => ⟨if_pos hin, _, if_pos hin, fun a => memory_read_write hwf _ a d⟩,
    fun hout => ⟨if_neg (Nat.not_lt.2 hout), if_neg (Nat.not_lt.2 hout)⟩⟩

end Sys2Proof.Proofs
end

section
/-!
PROOFS. ROAD.PARAMS (R272), and the rows of the road sprites column by column (R273 to R276).
-/

namespace Sys2Proof.Proofs

open Sys2Proof Sys2Proof.Machine

/-! ### The tables ROAD.PARAMS makes (R272) -/

/-- A mask built by setting bits one after the other holds the bits set. -/
theorem getLsbD_foldl_setBit {w : Nat} (p : Fin w → Bool) (l : List (Fin w)) (m : BitVec w)
    (k : Fin w) :
    (l.foldl (fun m j => if p j then m ||| (1#w <<< j.val) else m) m).getLsbD k =
      (m.getLsbD k || (decide (k ∈ l) && p k)) := by
  induction l generalizing m with
  | nil => simp
  | cons j l ih =>
    have hbit : (if p j then m ||| (1#w <<< j.val) else m).getLsbD k =
        (m.getLsbD k || (decide (k = j) && p k)) := by
      by_cases hkj : k = j
      · subst hkj
        cases p k <;> simp [k.isLt]
      · have hval : k.val ≠ j.val := fun h => hkj (Fin.ext h)
        have hone : (1#w <<< j.val).getLsbD k = false := by
          simp only [BitVec.getLsbD_shiftLeft, BitVec.getLsbD_one]
          simp
          omega
        cases p j
        · simp [hkj]
        · rw [if_pos rfl, BitVec.getLsbD_or, hone]
          simp [hkj]
    rw [List.foldl_cons, ih, hbit, Bool.or_assoc, ← Bool.and_or_distrib_right]
    simp

theorem decodeColumn_getLsbD (c : RoadCfg) (bytes : List Byte) (px : Nat) (slot : Fin 16) :
    (decodeColumn c bytes px).getLsbD slot =
      openAt c.spriteXIndex Config.freeSpriteXIndex (bytes, slot.val, px) := by
  rw [decodeColumn, getLsbD_foldl_setBit]
  simp

theorem roadParams_on_tile_board {s : State} (h : s.cfg.roadBoard = false) : roadParams s = s :=
  if_neg (by simp [h])

section RoadBoard

variable {s : State} (hroad : s.cfg.roadBoard = true)

include hroad

theorem roadParams_on_road_board : roadParams s = { s with
    sprparam := Vector.ofFn fun slot => decodeParam s.cfg.road (s.roadspr.dump s.cfg.road.sprSize) slot
    sprxmap := (windowColumns s.cfg.road).map
      (decodeColumn s.cfg.road (s.roadspr.dump s.cfg.road.sprSize)) } := by
  rw [roadParams, if_pos hroad, windowColumns, List.map_map]
  rfl

theorem roadParams_sprparam (slot : Fin 16) : (roadParams s).sprparam[slot] =
    decodeParam s.cfg.road (s.roadspr.dump s.cfg.road.sprSize) slot := by
  rw [roadParams_on_road_board hroad]
  exact Vector.getElem_ofFn slot.isLt

theorem columnMask_roadParams {x : Nat} (hfirst : s.cfg.road.xFirst ≤ x)
    (hlast : x ≤ s.cfg.road.xLast) : columnMask (roadParams s) x =
      decodeColumn s.cfg.road (s.roadspr.dump s.cfg.road.sprSize) x := by
  have hlt : x - s.cfg.road.xFirst < (windowColumns s.cfg.road).length := by
    simp [windowColumns]; omega
  have hcolumn : (windowColumns s.cfg.road)[x - s.cfg.road.xFirst] = x := by
    simp [windowColumns]; omega
  rw [roadParams_on_road_board hroad, columnMask, List.getD_eq_getElem _ _ (by simpa using hlt),
    List.getElem_map, hcolumn]

end RoadBoard

/-- Settles O35: the decoded records stand in order, and the mask of a column is decoded bit by bit.  It is
named under `Params` so that `roadParams` alone still means the model's. -/
theorem Params.roadParams : Obligations.RoadParams := by
  intro s
  refine ⟨fun h => congrArg _ (roadParams_on_tile_board h), fun hroad => ⟨Machine.roadParams s, rfl,
    roadParams_frame s, roadParams_sprparam hroad, ?_, fun x hfirst hlast slot => ?_⟩⟩
  · simp [roadParams_on_road_board hroad, windowColumns]
  · rw [columnMask_roadParams hroad hfirst hlast, decodeColumn_getLsbD]

/-! ### Records of a checked board (R346, R349) -/

section Checked

variable {c : Config} (hcheck : checkConfiguration c = none) (hroad : c.roadBoard = true)

include hcheck hroad

theorem decodeParam_mem (bytes : List Byte) (slot : Nat) :
    decodeParam c.road bytes slot ∈ c.road.paramImage := by
  have hlt : openIndex c.road.paramDecode c.road.paramImage.length Config.freeParamDecode (bytes, slot)
      < c.road.paramImage.length := by
    refine Nat.lt_of_not_le fun hle => ?_
    exact (checkConfiguration_eq_none_iff c).1 hcheck .spriteRowData ⟨hroad, .inl ⟨_, hle⟩⟩
  rw [decodeParam, List.getD_eq_getElem _ _ hlt]
  exact List.getElem_mem hlt

theorem rowFits_of_checked {P : SpriteParam} (hP : P ∈ c.road.paramImage) {y : Nat}
    (hfirst : c.road.yFirst ≤ y) (hlast : y ≤ c.road.yLast) (hmin : P.miny ≤ y) (hmax : y < P.maxy) :
    rowFits c.road P y := by
  by_contra hfits
  exact (checkConfiguration_eq_none_iff c).1 hcheck .spriteRowData
    ⟨hroad, .inr ⟨P, hP, y, hfirst, hlast, hmin, hmax, hfits⟩⟩

end Checked

/-! ### Drawing a row (R275, R276) -/

section Row

variable (s : State) (slot : Nat) (P : SpriteParam) (base : Nat)

/-- Column `xoffset + n` is drawn by a row that has come from position `first`: it lies in the window, the
slot is active there, and no source word from `first` to n is the sentinel. -/
def DrawsFrom (first n : Nat) : Prop :=
  P.xoffset + n ≤ s.cfg.road.xLast ∧ (columnMask s (P.xoffset + n)).getLsbD slot = true ∧
    ∀ m, first ≤ m → m ≤ n → rowWord s.cfg.road (base + srcPos s.cfg.road P m) ≠ rowSentinel

/-- The merge of source word n into an entry of the sprite buffer. -/
def mergeWord (entry n : Nat) : Nat :=
  openAt s.cfg.road.sprMerge Config.freeSprMerge
    (entry, slot, rowWord s.cfg.road (base + srcPos s.cfg.road P n))

/-- The buffer after column `xoffset + n` of a row. -/
def drawColumn (n : Nat) (buf : List Nat) : List Nat :=
  if s.cfg.road.xFirst ≤ P.xoffset + n ∧ (columnMask s (P.xoffset + n)).getLsbD slot then
    buf.set (P.xoffset + n - s.cfg.road.xFirst)
      (mergeWord s slot P base (bufferAt s.cfg.road buf (P.xoffset + n)) n)
  else buf

theorem drawRow_succ (fuel n : Nat) (buf : List Nat) :
    drawRow s slot P base (fuel + 1) n (srcPos s.cfg.road P n) buf =
      if s.cfg.road.xLast < P.xoffset + n ∨
          rowWord s.cfg.road (base + srcPos s.cfg.road P n) = rowSentinel then buf
      else drawRow s slot P base fuel (n + 1) (srcPos s.cfg.road P (n + 1))
        (drawColumn s slot P base n buf) := by
  rw [drawRow]
  by_cases hlast : P.xoffset + n > s.cfg.road.xLast
  · rw [if_pos hlast, if_pos (.inl hlast)]
  · by_cases hword : rowWord s.cfg.road (base + srcPos s.cfg.road P n) = rowSentinel
    · rw [if_neg hlast, if_pos hword, if_pos (.inr hword)]
    · rw [if_neg hlast, if_neg hword, if_neg (not_or.2 ⟨hlast, hword⟩)]
      rfl

@[simp] theorem drawColumn_length (n : Nat) (buf : List Nat) :
    (drawColumn s slot P base n buf).length = buf.length := by
  unfold drawColumn
  split <;> simp

theorem drawRow_length (fuel n : Nat) (buf : List Nat) :
    (drawRow s slot P base fuel n (srcPos s.cfg.road P n) buf).length = buf.length := by
  induction fuel generalizing n buf with
  | zero => rfl
  | succ fuel ih =>
    rw [drawRow_succ]
    split
    · rfl
    · rw [ih, drawColumn_length]

/-- An entry of the buffer after one write into it. -/
theorem bufferAt_set (c : RoadCfg) (buf : List Nat) {px x : Nat} (v : Nat) (hpx : c.xFirst ≤ px)
    (hx : c.xFirst ≤ x) (hlt : x < c.xFirst + buf.length) :
    bufferAt c (buf.set (px - c.xFirst) v) x = if x = px then v else bufferAt c buf x := by
  have hlen : x - c.xFirst < buf.length := by omega
  rw [bufferAt, bufferAt, List.getD_eq_getElem _ _ (by simpa using hlen),
    List.getD_eq_getElem _ _ hlen, List.getElem_set]
  exact if_congr (by omega) rfl rfl

section Entry

variable {s slot P base} {buf : List Nat} {x : Nat} (hx : s.cfg.road.xFirst ≤ x)
  (hlt : x < s.cfg.road.xFirst + buf.length)

include hx hlt

theorem drawColumn_other {n : Nat} (h : P.xoffset + n ≠ x) :
    bufferAt s.cfg.road (drawColumn s slot P base n buf) x = bufferAt s.cfg.road buf x := by
  unfold drawColumn
  split
  · next hdraw => rw [bufferAt_set _ _ _ hdraw.1 hx hlt, if_neg (Ne.symm h)]
  · rfl

theorem drawColumn_same {n : Nat} (h : P.xoffset + n = x) :
    bufferAt s.cfg.road (drawColumn s slot P base n buf) x =
      if (columnMask s x).getLsbD slot = true then
        mergeWord s slot P base (bufferAt s.cfg.road buf x) n
      else bufferAt s.cfg.road buf x := by
  subst h
  by_cases hmask : (columnMask s (P.xoffset + n)).getLsbD slot = true
  · rw [drawColumn, if_pos ⟨hx, hmask⟩, bufferAt_set _ _ _ hx hx hlt, if_pos rfl, if_pos hmask]
  · rw [drawColumn, if_neg fun hdraw => hmask hdraw.2, if_neg hmask]

/-- Columns the row has passed stay. -/
theorem drawRow_passed (fuel : Nat) {n : Nat} (h : x < P.xoffset + n) :
    bufferAt s.cfg.road (drawRow s slot P base fuel n (srcPos s.cfg.road P n) buf) x =
      bufferAt s.cfg.road buf x := by
  induction fuel generalizing n buf with
  | zero => rfl
  | succ fuel ih =>
    rw [drawRow_succ]
    split
    · rfl
    · rw [ih (by rwa [drawColumn_length]) (by omega), drawColumn_other hx hlt (by omega)]

/-- The column of position k, drawn if the row gets there and the slot is active. -/
theorem drawRow_entry (fuel : Nat) {first k : Nat} (hk : first ≤ k) (hpx : P.xoffset + k = x)
    (hfuel : x ≤ s.cfg.road.xLast → k < first + fuel) :
    (DrawsFrom s slot P base first k →
      bufferAt s.cfg.road (drawRow s slot P base fuel first (srcPos s.cfg.road P first) buf) x =
        mergeWord s slot P base (bufferAt s.cfg.road buf x) k) ∧
    (¬DrawsFrom s slot P base first k →
      bufferAt s.cfg.road (drawRow s slot P base fuel first (srcPos s.cfg.road P first) buf) x =
        bufferAt s.cfg.road buf x) := by
  induction fuel generalizing first buf with
  | zero =>
    refine ⟨fun ⟨hlast, _⟩ => ?_, fun _ => rfl⟩
    have := hfuel (hpx ▸ hlast)
    omega
  | succ fuel ih =>
    rw [drawRow_succ]
    by_cases hstop : s.cfg.road.xLast < P.xoffset + first ∨
        rowWord s.cfg.road (base + srcPos s.cfg.road P first) = rowSentinel
    · rw [if_pos hstop]
      refine ⟨fun ⟨hlast, _, hword⟩ => ?_, fun _ => rfl⟩
      exact absurd hstop (not_or.2 ⟨by omega, hword first le_rfl hk⟩)
    · rw [if_neg hstop]
      obtain ⟨hwindow, hfirst⟩ := not_or.1 hstop
      obtain rfl | hlater := Nat.eq_or_lt_of_le hk
      · have hdraws : DrawsFrom s slot P base first first ↔ (columnMask s x).getLsbD slot = true := by
          rw [← hpx]
          refine ⟨fun ⟨_, hmask, _⟩ => hmask, fun hmask => ⟨by omega, hmask, fun m hm hm' => ?_⟩⟩
          rwa [Nat.le_antisymm hm' hm]
        rw [drawRow_passed hx (by rwa [drawColumn_length]) fuel (by omega), drawColumn_same hx hlt hpx,
          hdraws]
        exact ⟨fun h => if_pos h, fun h => if_neg h⟩
      · have hdraws : DrawsFrom s slot P base first k ↔ DrawsFrom s slot P base (first + 1) k := by
          refine ⟨fun ⟨hlast, hmask, hword⟩ => ⟨hlast, hmask, fun m hm => hword m (by omega)⟩,
            fun ⟨hlast, hmask, hword⟩ => ⟨hlast, hmask, fun m hm hm' => ?_⟩⟩
          obtain rfl | hm := Nat.eq_or_lt_of_le hm
          exacts [hfirst, hword m hm hm']
        rw [hdraws, ← drawColumn_other (base := base) hx hlt (by omega : P.xoffset + first ≠ x)]
        exact ih (by rwa [drawColumn_length]) hlater (fun h => by have := hfuel h; omega)

end Entry

theorem drawSpriteRow_length (buf : List Nat) :
    (drawSpriteRow s slot P base buf).length = buf.length := drawRow_length s slot P base _ 0 buf

/-- An entry beyond the window is empty before and after. -/
theorem drawSpriteRow_beyond {buf : List Nat} {x : Nat} (h : s.cfg.road.xFirst + buf.length ≤ x) :
    bufferAt s.cfg.road (drawSpriteRow s slot P base buf) x = bufferAt s.cfg.road buf x := by
  have hlen : buf.length ≤ x - s.cfg.road.xFirst := by omega
  rw [bufferAt, bufferAt, List.getD_eq_default _ _ hlen,
    List.getD_eq_default _ _ (by rwa [drawSpriteRow_length])]

section Window

variable {s slot P base} {buf : List Nat} {x : Nat} (hx : s.cfg.road.xFirst ≤ x)
  (hlt : x < s.cfg.road.xFirst + buf.length)

include hx hlt

theorem drawSpriteRow_left (h : ∀ n, P.xoffset + n ≠ x) :
    bufferAt s.cfg.road (drawSpriteRow s slot P base buf) x = bufferAt s.cfg.road buf x := by
  refine drawRow_passed hx hlt _ (n := 0) (Nat.lt_of_not_le fun hle => h (x - P.xoffset) ?_)
  omega

theorem drawSpriteRow_entry {n : Nat} (h : P.xoffset + n = x) :
    (DrawsFrom s slot P base 0 n →
      bufferAt s.cfg.road (drawSpriteRow s slot P base buf) x =
        mergeWord s slot P base (bufferAt s.cfg.road buf x) n) ∧
    (¬DrawsFrom s slot P base 0 n →
      bufferAt s.cfg.road (drawSpriteRow s slot P base buf) x = bufferAt s.cfg.road buf x) :=
  drawRow_entry hx hlt _ (Nat.zero_le n) h fun hlast => by rw [rowColumns]; omega

end Window

/-- A row stops at the first sentinel it reads. -/
theorem drawSpriteRow_after_sentinel {buf : List Nat} {k x : Nat}
    (hk : rowWord s.cfg.road (base + srcPos s.cfg.road P k) = rowSentinel)
    (hkx : P.xoffset + k ≤ x) (hx : s.cfg.road.xFirst ≤ x) :
    bufferAt s.cfg.road (drawSpriteRow s slot P base buf) x = bufferAt s.cfg.road buf x := by
  obtain hlt | hbeyond := Nat.lt_or_ge x (s.cfg.road.xFirst + buf.length)
  · refine (drawSpriteRow_entry hx hlt (n := x - P.xoffset) (by omega)).2 ?_
    exact fun ⟨_, _, hword⟩ => hword k (Nat.zero_le k) (by omega) hk
  · exact drawSpriteRow_beyond s slot P base hbeyond

end Row

/-- Without zoom the source position is the column's own (R275). -/
theorem srcPos_of_unzoomed {c : RoadCfg} {P : SpriteParam}
    (h : ∀ n, openAt c.srcStep Config.freeSrcStep (P, n) = 1) (n : Nat) : srcPos c P n = n := by
  induction n with
  | zero => rfl
  | succ n ih => rw [srcPos, ih, srcStep, h]

/-- Settles O38: the row column by column (`drawSpriteRow_entry`), where a sentinel ends it, and the two
facts of the configuration check about listed records. -/
theorem sentinelEndsTheRow : Obligations.SentinelEndsTheRow := by
  refine ⟨fun _ _ _ _ => rfl, fun s slot P base buf => ?_, ?_, fun c hcheck hroad P hP y => ?_⟩
  · refine ⟨drawSpriteRow_length s slot P base buf, fun x hx hlt => ⟨drawSpriteRow_left hx hlt,
      fun n hn => ?_⟩, fun k hunzoomed hk x hkx hx => ?_⟩
    · obtain ⟨hdrawn, hkept⟩ := drawSpriteRow_entry (slot := slot) (base := base) hx hlt hn
      subst hn
      split_ifs with h
      · obtain ⟨hlast, hmask, hword⟩ := h
        exact hdrawn ⟨hlast, hmask, fun m _ => hword m⟩
      · exact hkept fun ⟨hlast, hmask, hword⟩ => h ⟨hlast, hmask, fun m => hword m (Nat.zero_le m)⟩
    · exact drawSpriteRow_after_sentinel s slot P base (by rwa [srcPos_of_unzoomed hunzoomed]) hkx hx
  · intro s t hcheck hroad hexec slot
    obtain rfl : roadParams s = t := Host.Outcome.next.inj hexec
    rw [roadParams_sprparam hroad]
    exact decodeParam_mem hcheck hroad _ _
  · exact rowFits_of_checked hcheck hroad hP

end Sys2Proof.Proofs
end

section
/-!
PROOFS. The sweep of a scanline: the off-road group over any pixels (R268), the columns in order (R262), and
what each of them gives in the closed form of `lineAddress` to `linePixel` (R263 to R270).
-/

namespace Sys2Proof.Proofs

open Sys2Proof Sys2Proof.Machine

/-! ### A sweep over any pixels (R261, R268) -/

section Sweep

variable (minimal : Bool) (y va : Nat)

/-- The pixels (x, i) of a scanline one after the other. -/
def sweepOver (pixels : List (Nat × Nat)) (s : State) : State :=
  pixels.foldl (fun u xi => roadPixelStep minimal y va xi.1 u xi.2) s

theorem sweepOver_concat (pixels : List (Nat × Nat)) (xi : Nat × Nat) (s : State) :
    sweepOver minimal y va (pixels ++ [xi]) s =
      roadPixelStep minimal y va xi.1 (sweepOver minimal y va pixels s) xi.2 :=
  List.foldl_concat ..

theorem sweepOver_frame (pixels : List (Nat × Nat)) (s : State) :
    SweepFrame s (sweepOver minimal y va pixels s) :=
  SweepFrame.foldl _ _ fun s xi => roadPixelStep_frame minimal y va xi.1 s xi.2

/-- Whether a pixel is off-road depends on nothing a sweep writes. -/
theorem offRoadAt_of_sweepFrame {s t : State} (h : SweepFrame s t) (x i : Nat) :
    offRoadAt t va x i = offRoadAt s va x i := by
  rw [SweepFrame] at h
  rw [h]
  rfl

/-- Of the working state of the scanline a pixel changes what the off-road trigger changes. -/
theorem roadPixelStep_working (x : Nat) (s : State) (i : Nat) :
    (roadPixelStep minimal y va x s i).sprbuf =
      (offRoadTrigger s y (offRoadAt s va x i)).sprbuf ∧
    (roadPixelStep minimal y va x s i).offroadDrawn =
      (offRoadTrigger s y (offRoadAt s va x i)).offroadDrawn := by
  unfold roadPixelStep
  cases minimal
  · exact ⟨State.setFrame_sprbuf .., State.setFrame_offroadDrawn ..⟩
  · exact ⟨rfl, rfl⟩

/-- Some pixel is off-road. -/
def crosses (s : State) (pixels : List (Nat × Nat)) : Bool :=
  pixels.any fun xi => offRoadAt s va xi.1 xi.2

theorem crosses_concat (s : State) (pixels : List (Nat × Nat)) (xi : Nat × Nat) :
    crosses va s (pixels ++ [xi]) = (crosses va s pixels || offRoadAt s va xi.1 xi.2) := by
  simp [crosses]

theorem offRoadTrigger_false (s : State) : offRoadTrigger s y false = s := rfl

theorem offRoadTrigger_of_drawn {s : State} (h : s.offroadDrawn = true) (acciar : Bool) :
    offRoadTrigger s y acciar = s := by
  simp [offRoadTrigger, h]

theorem offRoadTrigger_of_undrawn {s : State} (h : s.offroadDrawn = false) :
    offRoadTrigger s y true = { drawSpriteGroup s true y with offroadDrawn := true } := by
  simp [offRoadTrigger, h]

/-- The board and the sprite tables are as they were. -/
theorem tables_of_sweepFrame {s t : State} (h : SweepFrame s t) :
    t.cfg = s.cfg ∧ t.sprparam = s.sprparam ∧ t.sprxmap = s.sprxmap := by
  rw [SweepFrame] at h
  rw [h]
  exact ⟨rfl, rfl, rfl⟩

/-- Drawing a slot reads the board and the sprite tables alone (R273). -/
theorem drawSlot_congr {s t : State} (hcfg : t.cfg = s.cfg) (hparam : t.sprparam = s.sprparam)
    (hmap : t.sprxmap = s.sprxmap) : drawSlot t y = drawSlot s y := by
  funext buf slot
  simp only [drawSlot, drawSpriteRow, hcfg, hparam, drawRow_congr hcfg hmap]

theorem drawSlot_of_sweepFrame {s t : State} (h : SweepFrame s t) : drawSlot t y = drawSlot s y := by
  obtain ⟨hcfg, hparam, hmap⟩ := tables_of_sweepFrame h
  exact drawSlot_congr y hcfg hparam hmap

/-- Drawing a group reads nothing a sweep writes but the sprite buffer. -/
theorem drawSpriteGroup_of_sweepFrame {s t : State} (h : SweepFrame s t) (hbuf : t.sprbuf = s.sprbuf)
    (offroad : Bool) :
    (drawSpriteGroup t offroad y).sprbuf = (drawSpriteGroup s offroad y).sprbuf := by
  obtain ⟨hcfg, hparam, hmap⟩ := tables_of_sweepFrame h
  exact drawSpriteGroup_congr hcfg hparam hmap hbuf offroad y

/-- A sweep leaves the working state as a single trigger would, on whether any of its pixels is off-road
(R268, R284(c)). -/
theorem sweepOver_working {s : State} (h : s.offroadDrawn = false) (pixels : List (Nat × Nat)) :
    (sweepOver minimal y va pixels s).sprbuf =
      (offRoadTrigger s y (crosses va s pixels)).sprbuf ∧
    (sweepOver minimal y va pixels s).offroadDrawn = crosses va s pixels := by
  induction pixels using List.reverseRecOn with
  | nil => exact ⟨rfl, h⟩
  | append_singleton pixels xi ih =>
    obtain ⟨hbuf, hdrawn⟩ := ih
    have hframe := sweepOver_frame minimal y va pixels s
    obtain ⟨hbuf', hdrawn'⟩ :=
      roadPixelStep_working minimal y va xi.1 (sweepOver minimal y va pixels s) xi.2
    rw [sweepOver_concat, hbuf', hdrawn', offRoadAt_of_sweepFrame va hframe, crosses_concat]
    cases hcrossed : crosses va s pixels with
    | true =>
      rw [hcrossed] at hbuf hdrawn
      rw [offRoadTrigger_of_drawn y hdrawn]
      exact ⟨hbuf, hdrawn⟩
    | false =>
      rw [hcrossed] at hbuf hdrawn
      cases offRoadAt s va xi.1 xi.2 with
      | false => exact ⟨hbuf, hdrawn⟩
      | true =>
        rw [offRoadTrigger_of_undrawn y hdrawn, Bool.false_or, offRoadTrigger_of_undrawn y h]
        exact ⟨drawSpriteGroup_of_sweepFrame y hframe hbuf true, rfl⟩

end Sweep

/-- Settles O39: the sweep leaves the working state as one trigger on "some pixel is off-road" would. -/
theorem offRoadGroupDrawnOnce : Obligations.OffRoadGroupDrawnOnce := by
  intro s minimal y va pixels h
  obtain ⟨hbuf, hdrawn⟩ := sweepOver_working minimal y va h pixels
  refine ⟨fun hnone => ?_, fun hsome => ?_⟩
  · have hcrosses : crosses va s pixels = false := by simpa [crosses] using hnone
    rw [hcrosses] at hbuf hdrawn
    exact ⟨hbuf, hdrawn⟩
  · have hcrosses : crosses va s pixels = true := by simpa [crosses] using hsome
    rw [hcrosses, offRoadTrigger_of_undrawn y h] at hbuf
    exact ⟨hbuf, hdrawn.trans hcrosses⟩

/-! ### The columns of the sweep window (R262) -/

section Columns

variable (c : RoadCfg)

/-- How many columns the sweep reaches: whole chunks. -/
def sweptColumns : Nat := 8 * ((c.xLast + 8 - c.xFirst) / 8)

/-- Column number n of the sweep as the sweep names it: its chunk, and its place there. -/
def pixelAt (n : Nat) : Nat × Nat := (c.xFirst + 8 * (n / 8), n % 8)

/-- The first n pixels of the sweep. -/
def firstPixels (n : Nat) : List (Nat × Nat) := (List.range n).map (pixelAt c)

theorem firstPixels_succ (n : Nat) : firstPixels c (n + 1) = firstPixels c n ++ [pixelAt c n] := by
  rw [firstPixels, List.range_succ, List.map_append]
  rfl

theorem swept_iff (px : Nat) : swept c px = true ↔ ∃ n < sweptColumns c, px = c.xFirst + n := by
  rw [swept, Bool.and_eq_true, decide_eq_true_eq, decide_eq_true_eq, chunkOf, sweptColumns]
  constructor
  · exact fun ⟨hfirst, hlast⟩ => ⟨px - c.xFirst, by omega, by omega⟩
  · rintro ⟨n, hn, rfl⟩
    omega

theorem exists_swept_iff (p : Nat → Prop) :
    (∃ px, swept c px = true ∧ p px) ↔ ∃ n < sweptColumns c, p (c.xFirst + n) := by
  simp only [swept_iff]
  constructor
  · rintro ⟨_, ⟨n, hn, rfl⟩, hp⟩
    exact ⟨n, hn, hp⟩
  · rintro ⟨n, hn, hp⟩
    exact ⟨_, ⟨n, hn, rfl⟩, hp⟩

theorem chunkOf_column (n : Nat) : chunkOf c (c.xFirst + n) = (pixelAt c n).1 := by
  simp only [chunkOf, pixelAt]
  omega

theorem pixelAt_column (n : Nat) : (pixelAt c n).1 + (pixelAt c n).2 = c.xFirst + n := by
  simp only [pixelAt]
  omega

/-- The chunks one after the other are the columns in order. -/
theorem chunks_eq_firstPixels (chunks : Nat) :
    ((List.range chunks).map fun k => c.xFirst + 8 * k).flatMap
      (fun x => (List.range 8).map fun i => (x, i)) = firstPixels c (8 * chunks) := by
  induction chunks with
  | zero => rfl
  | succ chunks ih =>
    have hchunk : (List.range 8).map (fun i => (c.xFirst + 8 * chunks, i)) =
        (List.range 8).map fun i => pixelAt c (8 * chunks + i) := by
      refine List.map_congr_left fun i hi => ?_
      have := List.mem_range.1 hi
      rw [pixelAt, show (8 * chunks + i) / 8 = chunks by omega, show (8 * chunks + i) % 8 = i by omega]
    rw [List.range_succ (n := chunks), List.map_append, List.flatMap_append, ih, List.map_singleton,
      List.flatMap_singleton, hchunk, firstPixels, firstPixels, Nat.mul_succ, List.range_add,
      List.map_append, List.map_map]
    rfl

/-- The chunk loop of ROAD.LINE as one sweep over the columns. -/
theorem foldl_roadChunk (minimal : Bool) (y va : Nat) (s : State) :
    (chunkColumns c).foldl (roadChunk minimal y va) s =
      sweepOver minimal y va (firstPixels c (sweptColumns c)) s := by
  rw [sweepOver, sweptColumns, ← chunks_eq_firstPixels, List.foldl_flatMap]
  simp only [List.foldl_map]
  rw [chunkColumns, List.foldl_map]
  rfl

end Columns

/-! ### A column in closed form (R263 to R267) -/

theorem xor_ff_of_lt {v : Nat} (h : v < 256) : v ^^^ 0xFF = 255 - v := by
  have hnot := congrArg BitVec.toNat (BitVec.xor_allOnes (x := BitVec.ofNat 8 v))
  simpa [Nat.mod_eq_of_lt h] using hnot

theorem vertAddr_eq (s : State) (y : Nat) : vertAddr s y = lineAddress s y := by
  unfold vertAddr lineAddress
  exact if_congr Iff.rfl (xor_ff_of_lt (by omega)) rfl

theorem vertAddr_lt (s : State) (y : Nat) : vertAddr s y < 256 := by
  rw [vertAddr_eq, lineAddress]
  split <;> omega

theorem carrySelect_chunk (s : State) (px : Nat) :
    carrySelect s (chunkOf s.cfg.road px) = (lineSelector s px, lineColor s px) := by
  have hcarry : carryOf s.opb (chunkOf s.cfg.road px) =
      (chunkOf s.cfg.road px + s.opb.toNat).testBit 8 := by
    rw [Nat.testBit_eq_decide_div_mod_eq]
    rfl
  simp only [carrySelect, lineSelector, lineColor, picksB, hcarry, decide_eq_true_eq]
  split <;> rfl

/-- Each area bit is bit 8 of its sum, moved to the place its mask keeps (R265). -/
theorem areaBit_eq (b x i k : Nat) (hk : k ≤ 8) :
    areaBit b x i (8 - k) (2 ^ k) = ((b + (x + i)).testBit 8).toNat * 2 ^ k := by
  rw [areaBit, Nat.and_two_pow, Nat.testBit_shiftRight, Nat.sub_add_cancel hk, Nat.add_assoc]

/-- A table's byte is addressed by its nibble over the vertical address (R126). -/
theorem areaRom_eq (rom : Rom Byte) (half : NibbleHalf) (sel : Byte) {va : Nat} (h : va < 256) :
    areaRom rom half sel va =
      (romByte rom (256 * (if half = .lo then sel.toNat % 16 else sel.toNat / 16) + va)).toNat := by
  have hnibble : nibbleOf half sel = if half = .lo then sel.toNat % 16 else sel.toNat / 16 := by
    cases half <;> rfl
  rw [areaRom, ← Nat.shiftLeft_add_eq_or_of_lt h, hnibble, Nat.shiftLeft_eq, Nat.mul_comm]

/-- Five bits at their places: their or is their sum. -/
theorem or_bits_eq_add (b0 b1 b2 b3 b4 : Bool) :
    b0.toNat * 2 ^ 0 ||| b1.toNat * 2 ^ 1 ||| b2.toNat * 2 ^ 2 ||| b3.toNat * 2 ^ 3 |||
      (if b4 then 0x10 else 0) =
    b0.toNat + 2 * b1.toNat + 4 * b2.toNat + 8 * b3.toNat + 16 * b4.toNat := by
  revert b0 b1 b2 b3 b4
  decide

section Column

variable (s : State) (y : Nat) {x i : Nat} (hchunk : chunkOf s.cfg.road (x + i) = x)

include hchunk

theorem areaBit_line (rom : Rom Byte) (half : NibbleHalf) (k : Nat) (hk : k ≤ 8) :
    areaBit (areaRom rom half (carrySelect s x).1 (vertAddr s y)) x i (8 - k) (2 ^ k) =
      (lineAreaBit s y (x + i) rom half).toNat * 2 ^ k := by
  have hsel : (carrySelect s x).1 = lineSelector s (x + i) := by
    simpa only [hchunk] using congrArg Prod.fst (carrySelect_chunk s (x + i))
  rw [areaBit_eq _ _ _ _ hk, areaRom_eq _ _ _ (vertAddr_lt s y), hsel, vertAddr_eq]
  rfl

theorem areaIndex_line :
    areaIndex s.cfg.road (carrySelect s x).1 (vertAddr s y) x i = lineArea s y (x + i) := by
  have hfive : area5 s.cfg.road (x + i) = if lineAreaBit5 s (x + i) then 0x10 else 0 := by
    unfold area5 lineAreaBit5
    simp only [decide_eq_true_eq]
  have h (rom half k hk) := areaBit_line s y hchunk rom half k hk
  rw [areaIndex, lineArea, ← or_bits_eq_add, ← h _ _ 0 (by decide), ← h _ _ 1 (by decide),
    ← h _ _ 2 (by decide), ← h _ _ 3 (by decide), hfive]
  rfl

theorem roadEntry_line : romByte s.cfg.road.roaden
    (areaIndex s.cfg.road (carrySelect s x).1 (vertAddr s y) x i) = lineEntry s y (x + i) := by
  rw [areaIndex_line s y hchunk, lineEntry]

theorem offRoadAt_line : offRoadAt s (vertAddr s y) x i = lineOffRoad s y (x + i) := by
  rw [offRoadAt, roadEntry_line s y hchunk]
  rfl

end Column

theorem babitOf_eq (c : RoadCfg) (e : Byte) : babitOf c e = e.toNat / 2 ^ c.babitShift % 8 := by
  rw [babitOf, BitVec.toNat_and, BitVec.toNat_ushiftRight, Nat.shiftRight_eq_div_pow]
  exact Nat.and_two_pow_sub_one_eq_mod _ 3

/-! ### One pixel of a sweep (R269, R270) -/

section Pixel

variable (y va x : Nat) (s : State) (i : Nat)

/-- The sprite-buffer entry pixel `x + i` finds, after its own trigger. -/
def pixelSprite : Nat :=
  bufferAt s.cfg.road (offRoadTrigger s y (offRoadAt s va x i)).sprbuf (x + i)

/-- The entry of pixel `x + i` in the road enable/collision table (R267). -/
def pixelEntry : Byte :=
  romByte s.cfg.road.roaden (areaIndex s.cfg.road (carrySelect s x).1 va x i)

theorem roadPixelStep_collision (minimal : Bool) :
    (roadPixelStep minimal y va x s i).collision = s.collision |||
      (spritePriority s.cfg.road (pixelSprite y va x s i) &&&
        openAt s.cfg.road.collMask Config.freeCollMask
          (sliparOf s.cfg.road (pixelEntry va x s i), offRoadAt s va x i)) := by
  unfold roadPixelStep
  cases minimal
  · exact (writeRoadPixel_collision ..).trans (congrArg (· ||| _) (offRoadTrigger_collision ..))
  · exact congrArg (· ||| _) (offRoadTrigger_collision ..)

theorem offRoadTrigger_kept (acciar : Bool) (m : Monitor) :
    (offRoadTrigger s y acciar).cfg = s.cfg ∧ (offRoadTrigger s y acciar).frame m = s.frame m := by
  obtain ⟨_, _, h⟩ | ⟨_, h⟩ := offRoadTrigger_cases s y acciar <;> rw [h]
  · exact ⟨rfl, rfl⟩
  · exact ⟨rfl, rfl⟩

theorem roadPixelStep_minimal_frame (m : Monitor) :
    (roadPixelStep true y va x s i).frame m = s.frame m :=
  (offRoadTrigger_kept y s (offRoadAt s va x i) m).2

theorem roadPixelStep_other_frame (minimal : Bool) {m : Monitor} (h : m ≠ s.cfg.road.mon) :
    (roadPixelStep minimal y va x s i).frame m = s.frame m := by
  cases minimal with
  | true => exact roadPixelStep_minimal_frame y va x s i m
  | false =>
    obtain ⟨hcfg, hframe⟩ := offRoadTrigger_kept y s (offRoadAt s va x i) m
    exact (State.setFrame_frame_ne _ _ _ _ (by rwa [← hcfg] at h)).trans hframe

/-- The pixel write on the road's monitor, from a state that differs in the working state and the accumulator
alone. -/
theorem writeRoadPixel_own_frame {s u : State} (hcfg : u.cfg = s.cfg)
    (hframe : u.frame s.cfg.road.mon = s.frame s.cfg.road.mon) (px babit coch : Nat) (sprpri : Nibble) :
    (writeRoadPixel u y px babit coch sprpri).frame s.cfg.road.mon =
      (s.frame s.cfg.road.mon).set px y (roadPixel s.cfg.road s.cfg.pal.entries y px babit coch
        (bufferAt s.cfg.road u.sprbuf px) sprpri ((s.frame s.cfg.road.mon).get px y)) := by
  rw [← hframe, ← hcfg]
  exact State.setFrame_frame ..

theorem roadPixelStep_full_frame : (roadPixelStep false y va x s i).frame s.cfg.road.mon =
    (s.frame s.cfg.road.mon).set (x + i) y
      (roadPixel s.cfg.road s.cfg.pal.entries y (x + i) (babitOf s.cfg.road (pixelEntry va x s i))
        (carrySelect s x).2 (pixelSprite y va x s i)
        (spritePriority s.cfg.road (pixelSprite y va x s i))
        ((s.frame s.cfg.road.mon).get (x + i) y)) := by
  obtain ⟨hcfg, hframe⟩ := offRoadTrigger_kept y s (offRoadAt s va x i) s.cfg.road.mon
  exact writeRoadPixel_own_frame (u := orCollision (offRoadTrigger s y _) _ _) y hcfg hframe _ _ _ _

end Pixel

end Sys2Proof.Proofs
end

section
/-!
PROOFS. ROAD.LINE as a sweep over the columns (R261): what it leaves in the accumulator and on the frames, the
agreement of its two passes (R284), and the road pass of a frame (R322, R323).
-/

namespace Sys2Proof.Proofs

open Sys2Proof Sys2Proof.Machine

/-! ### The columns of a scanline one after the other (R261, R268) -/

section Line

variable (minimal : Bool) (s : State) (y : Nat)

/-- The state of ROAD.LINE after its first n columns. -/
def sweepColumns (n : Nat) : State :=
  sweepOver minimal y (vertAddr s y) (firstPixels s.cfg.road n) (beginScanline s y)

theorem sweepColumns_succ (n : Nat) : sweepColumns minimal s y (n + 1) =
    roadPixelStep minimal y (vertAddr s y) (pixelAt s.cfg.road n).1 (sweepColumns minimal s y n)
      (pixelAt s.cfg.road n).2 := by
  rw [sweepColumns, firstPixels_succ, sweepOver_concat]
  rfl

theorem sweepColumns_frame (n : Nat) : SweepFrame s (sweepColumns minimal s y n) :=
  SweepFrame.trans (t := beginScanline s y) rfl (sweepOver_frame minimal y _ _ _)

/-- ROAD.LINE sweeps scanline y: a visible one, on a road board (R261, R262). -/
def LineVisible (c : Config) (y : Nat) : Prop :=
  c.roadBoard = true ∧ c.road.yFirst ≤ y ∧ y ≤ c.road.yLast

theorem not_lineVisible_iff (c : Config) : ¬LineVisible c y ↔
    c.roadBoard = false ∨ y < c.road.yFirst ∨ c.road.yLast < y := by
  rw [LineVisible, not_and_or, not_and_or, Bool.not_eq_true, Nat.not_le, Nat.not_le]

theorem roadLine_of_not_visible (h : ¬LineVisible s.cfg y) : roadLine minimal y s = s := by
  unfold roadLine
  obtain htile | hborder := (not_lineVisible_iff y s.cfg).1 h
  · rw [if_pos htile]
  · rw [if_pos hborder, ite_self]

theorem roadLine_of_visible (h : LineVisible s.cfg y) :
    roadLine minimal y s = endScanline (sweepColumns minimal s y (sweptColumns s.cfg.road)) := by
  obtain ⟨hroad, hfirst, hlast⟩ := h
  rw [roadLine, if_neg (by simp [hroad]), if_neg (by omega), foldl_roadChunk]
  rfl

theorem offRoadAt_column (n : Nat) : offRoadAt s (vertAddr s y) (pixelAt s.cfg.road n).1
    (pixelAt s.cfg.road n).2 = lineOffRoad s y (s.cfg.road.xFirst + n) := by
  have hchunk := chunkOf_column s.cfg.road n
  rw [← pixelAt_column] at hchunk ⊢
  exact offRoadAt_line s y hchunk

/-- Up to column n of the sweep some column is off-road exactly where the closed form says so (R268). -/
theorem crosses_firstPixels {n : Nat} (hn : n < sweptColumns s.cfg.road) :
    crosses (vertAddr s y) (beginScanline s y) (firstPixels s.cfg.road (n + 1)) =
      (List.range (s.cfg.road.xFirst + n + 1)).any fun x => swept s.cfg.road x && lineOffRoad s y x := by
  have hoffroad (k : Nat) : offRoadAt (beginScanline s y) (vertAddr s y) (pixelAt s.cfg.road k).1
      (pixelAt s.cfg.road k).2 = lineOffRoad s y (s.cfg.road.xFirst + k) := offRoadAt_column s y k
  rw [Bool.eq_iff_iff]
  simp only [crosses, firstPixels, List.any_map, List.any_eq_true, List.mem_range,
    Function.comp_apply, hoffroad, Bool.and_eq_true, swept_iff]
  constructor
  · exact fun ⟨k, hk, hcrossed⟩ => ⟨_, by omega, ⟨k, by omega, rfl⟩, hcrossed⟩
  · rintro ⟨_, hx, ⟨k, _, rfl⟩, hcrossed⟩
    exact ⟨k, by omega, hcrossed⟩

/-- The road group is drawn at the start of the scanline. -/
theorem beginScanline_sprbuf : (beginScanline s y).sprbuf = roadGroupBuffer s y := by
  have hslot : drawSlot { s with
      sprbuf := List.replicate (s.cfg.road.xLast + 1 - s.cfg.road.xFirst) s.cfg.road.sprEmpty
      offroadDrawn := false } y = drawSlot s y := drawSlot_of_sweepFrame y rfl
  rw [beginScanline, drawSpriteGroup, hslot]
  rfl

/-- What the column finds in the sprite buffer, the off-road group once drawn over the road group. -/
theorem pixelSprite_column {n : Nat} (hn : n < sweptColumns s.cfg.road) :
    pixelSprite y (vertAddr s y) (pixelAt s.cfg.road n).1 (sweepColumns minimal s y n)
      (pixelAt s.cfg.road n).2 = lineSprite s y (s.cfg.road.xFirst + n) := by
  obtain ⟨hcfg, _, _⟩ := tables_of_sweepFrame (sweepColumns_frame minimal s y n)
  have hworking : (sweepColumns minimal s y (n + 1)).sprbuf = (offRoadTrigger (beginScanline s y) y
      (crosses (vertAddr s y) (beginScanline s y) (firstPixels s.cfg.road (n + 1)))).sprbuf :=
    (sweepOver_working minimal y _ rfl _).1
  have hslot : drawSlot (beginScanline s y) y = drawSlot s y := drawSlot_of_sweepFrame y rfl
  rw [pixelSprite, ← (roadPixelStep_working minimal y _ _ _ _).1, ← sweepColumns_succ, hworking,
    crosses_firstPixels s y hn, hcfg, pixelAt_column, lineSprite]
  split
  · next hcrossed =>
    rw [hcrossed, offRoadTrigger_of_undrawn y rfl, drawSpriteGroup]
    simp only [hslot, beginScanline_sprbuf]
    rfl
  · next hcrossed =>
    rw [Bool.eq_false_of_not_eq_true hcrossed, offRoadTrigger_false, beginScanline_sprbuf]

/-- What a sweep writes is no input of a column's table entry, its off-road bit or its colour nibble. -/
theorem pixel_inputs_column (n : Nat) :
    pixelEntry (vertAddr s y) (pixelAt s.cfg.road n).1 (sweepColumns minimal s y n)
        (pixelAt s.cfg.road n).2 = lineEntry s y (s.cfg.road.xFirst + n) ∧
      offRoadAt (sweepColumns minimal s y n) (vertAddr s y) (pixelAt s.cfg.road n).1
        (pixelAt s.cfg.road n).2 = lineOffRoad s y (s.cfg.road.xFirst + n) ∧
      (carrySelect (sweepColumns minimal s y n) (pixelAt s.cfg.road n).1).2 =
        lineColor s (s.cfg.road.xFirst + n) := by
  have hframe := sweepColumns_frame minimal s y n
  refine ⟨?_, (offRoadAt_of_sweepFrame _ hframe _ _).trans (offRoadAt_column s y n), ?_⟩ <;>
    rw [SweepFrame] at hframe <;> rw [hframe]
  · have hchunk := chunkOf_column s.cfg.road n
    rw [← pixelAt_column] at hchunk ⊢
    exact roadEntry_line s y hchunk
  · rw [← chunkOf_column]
    exact congrArg Prod.snd (carrySelect_chunk s _)

/-! ### The accumulator and the frames after some columns (R269, R270) -/

/-- The accumulator with the bits of the first n columns. -/
def gatheredCollision (n : Nat) : Nibble :=
  (List.range n).foldl (fun bits k => bits ||| lineCollision s y (s.cfg.road.xFirst + k)) s.collision

theorem gatheredCollision_succ (n : Nat) : gatheredCollision s y (n + 1) =
    gatheredCollision s y n ||| lineCollision s y (s.cfg.road.xFirst + n) := by
  rw [gatheredCollision, List.range_succ, List.foldl_concat]
  rfl

theorem gatheredCollision_getLsbD (n k : Nat) : (gatheredCollision s y n).getLsbD k = true ↔
    s.collision.getLsbD k = true ∨
      ∃ m < n, (lineCollision s y (s.cfg.road.xFirst + m)).getLsbD k = true := by
  induction n with
  | zero => simp [gatheredCollision]
  | succ n ih =>
    rw [gatheredCollision_succ, BitVec.getLsbD_or, Bool.or_eq_true, ih, or_assoc, Nat.exists_lt_succ_right]

theorem sweepColumns_collision {n : Nat} (hn : n ≤ sweptColumns s.cfg.road) :
    (sweepColumns minimal s y n).collision = gatheredCollision s y n := by
  induction n with
  | zero => rfl
  | succ n ih =>
    obtain ⟨hcfg, _, _⟩ := tables_of_sweepFrame (sweepColumns_frame minimal s y n)
    obtain ⟨hentry, hoffroad, _⟩ := pixel_inputs_column minimal s y n
    rw [sweepColumns_succ, roadPixelStep_collision, pixelSprite_column minimal s y hn, hentry, hoffroad,
      hcfg, ih (by omega), gatheredCollision_succ]
    rfl

theorem sweepColumns_minimal_frame (n : Nat) (m : Monitor) :
    (sweepColumns true s y n).frame m = s.frame m := by
  induction n with
  | zero => rfl
  | succ n ih => rw [sweepColumns_succ, roadPixelStep_minimal_frame, ih]

theorem sweepColumns_other_frame (n : Nat) {m : Monitor} (h : m ≠ s.cfg.road.mon) :
    (sweepColumns minimal s y n).frame m = s.frame m := by
  induction n with
  | zero => rfl
  | succ n ih =>
    obtain ⟨hcfg, _, _⟩ := tables_of_sweepFrame (sweepColumns_frame minimal s y n)
    rw [sweepColumns_succ, roadPixelStep_other_frame _ _ _ _ _ _ (by rwa [hcfg]), ih]

end Line

section WriteColumns

variable (first y : Nat) (pixel : Nat → Nat → Nat) (p : Pixmap)

/-- The bitmap after columns `first` to `first + n - 1` of row y have each taken the index `pixel` gives over
the one beneath. -/
def writeColumns : Nat → Pixmap
  | 0 => p
  | n + 1 => (writeColumns n).set (first + n) y
      (pixel (first + n) ((writeColumns n).get (first + n) y))

theorem writeColumns_kept (n : Nat) : (p.wf → (writeColumns first y pixel p n).wf) ∧
    ∀ px py, (writeColumns first y pixel p n).covers px py = p.covers px py := by
  induction n with
  | zero => exact ⟨id, fun _ _ => rfl⟩
  | succ n ih =>
    obtain ⟨hwf, hcovers⟩ := ih
    exact ⟨fun h => Pixmap.set_wf _ _ _ _ (hwf h), fun px py => by
      rw [writeColumns, Pixmap.set_covers, hcovers]⟩

theorem writeColumns_get_outside (n : Nat) {px py : Nat} (h : py ≠ y ∨ ∀ k < n, px ≠ first + k) :
    (writeColumns first y pixel p n).get px py = p.get px py := by
  induction n with
  | zero => rfl
  | succ n ih =>
    rw [writeColumns, Pixmap.get_set_ne, ih (h.imp_right fun hk k hlt => hk k (by omega))]
    rintro ⟨rfl, rfl⟩
    exact h.elim (· rfl) fun hk => hk n (Nat.lt_succ_self n) rfl

theorem writeColumns_get_inside (hwf : p.wf) (n : Nat) {k : Nat} (hk : k < n)
    (hcovers : p.covers (first + k) y = true) :
    (writeColumns first y pixel p n).get (first + k) y =
      pixel (first + k) (p.get (first + k) y) := by
  induction n with
  | zero => exact absurd hk (Nat.not_lt_zero k)
  | succ n ih =>
    obtain ⟨hwf', hcovers'⟩ := writeColumns_kept first y pixel p n
    rw [writeColumns]
    obtain hlt | rfl := Nat.lt_succ_iff_lt_or_eq.1 hk
    · rw [Pixmap.get_set_ne _ _ _ _ _ _ (by omega), ih hlt]
    · rw [Pixmap.get_set_same _ _ _ _ (hwf' hwf) (by rwa [hcovers']),
        writeColumns_get_outside _ _ _ _ _ (.inr fun j hj => by omega)]

end WriteColumns

section Line

variable (minimal : Bool) (s : State) (y : Nat)

theorem linePixel_eq_roadPixel (px under : Nat) : linePixel s y px under =
    roadPixel s.cfg.road s.cfg.pal.entries y px (babitOf s.cfg.road (lineEntry s y px)) (lineColor s px)
      (lineSprite s y px) (spritePriority s.cfg.road (lineSprite s y px)) under := by
  rw [babitOf_eq]
  rfl

theorem sweepColumns_full_frame {n : Nat} (hn : n ≤ sweptColumns s.cfg.road) :
    (sweepColumns false s y n).frame s.cfg.road.mon =
      writeColumns s.cfg.road.xFirst y (linePixel s y) (s.frame s.cfg.road.mon) n := by
  induction n with
  | zero => rfl
  | succ n ih =>
    obtain ⟨hcfg, _, _⟩ := tables_of_sweepFrame (sweepColumns_frame false s y n)
    obtain ⟨hentry, _, hcolor⟩ := pixel_inputs_column false s y n
    have hpixel := roadPixelStep_full_frame y (vertAddr s y) (pixelAt s.cfg.road n).1
      (sweepColumns false s y n) (pixelAt s.cfg.road n).2
    rw [hcfg, pixelSprite_column false s y hn, hentry, hcolor, pixelAt_column,
      ← linePixel_eq_roadPixel, ih (by omega)] at hpixel
    rw [sweepColumns_succ, hpixel, writeColumns]

end Line

/-! ### ROAD.LINE and its two passes (R261, R284) -/

section Visible

variable (minimal : Bool) {s : State} {y : Nat} (hvisible : LineVisible s.cfg y)

include hvisible

theorem roadLine_visible_collision :
    (roadLine minimal y s).collision = gatheredCollision s y (sweptColumns s.cfg.road) := by
  rw [roadLine_of_visible minimal s y hvisible]
  exact sweepColumns_collision minimal s y le_rfl

/-- A swept scanline writes the accumulator and the frames, and leaves the working state empty. -/
theorem roadLine_visible_eq : roadLine minimal y s = { s with
    collision := gatheredCollision s y (sweptColumns s.cfg.road)
    sprbuf := []
    offroadDrawn := false
    frameTop := (roadLine minimal y s).frameTop
    frameBottom := (roadLine minimal y s).frameBottom } := by
  have hframe := roadLine_frame minimal y s
  rw [SweepFrame, roadLine_visible_collision minimal hvisible] at hframe
  rw [roadLine_of_visible minimal s y hvisible] at hframe ⊢
  exact hframe

theorem roadLine_visible_frame (m : Monitor) : (roadLine minimal y s).frame m =
    (sweepColumns minimal s y (sweptColumns s.cfg.road)).frame m := by
  rw [roadLine_of_visible minimal s y hvisible]
  rfl

theorem roadLine_minimal_eq : roadLine true y s = { s with
    collision := gatheredCollision s y (sweptColumns s.cfg.road)
    sprbuf := []
    offroadDrawn := false } := by
  have hframe (m : Monitor) : (roadLine true y s).frame m = s.frame m := by
    rw [roadLine_visible_frame true hvisible, sweepColumns_minimal_frame]
  have htop : (roadLine true y s).frameTop = s.frameTop := hframe .top
  have hbottom : (roadLine true y s).frameBottom = s.frameBottom := hframe .bottom
  rw [roadLine_visible_eq true hvisible, htop, hbottom]

end Visible

theorem roadLine_full_minimal (s : State) (y : Nat) :
    FramesOnly (roadLine true y s) (roadLine false y s) := by
  by_cases hvisible : LineVisible s.cfg y
  · rw [FramesOnly, roadLine_minimal_eq hvisible]
    exact roadLine_visible_eq false hvisible
  · rw [roadLine_of_not_visible _ s y hvisible, roadLine_of_not_visible _ s y hvisible]
    rfl

/-- Settles O36: the accumulator and the frames after the sweep, in the closed form of the columns.  It is
named under `Line` so that `roadLine` alone still means the model's. -/
theorem Line.roadLine : Obligations.RoadLine := by
  intro s minimal y
  refine ⟨fun hidle => congrArg Host.Outcome.next ?_, fun hroad hfirst hlast =>
    have hvisible : LineVisible s.cfg y.toNat := ⟨hroad, hfirst, hlast⟩
    ⟨Machine.roadLine (minimal = 1) y.toNat s, rfl, ?_, fun k _ => ?_, fun hminimal => ?_, fun m hm => ?_,
      fun hfull hwf px hpx hcovers => ?_, fun px py houtside => ?_⟩⟩
  · exact roadLine_of_not_visible _ s _ ((not_lineVisible_iff _ s.cfg).2 hidle)
  · rw [roadLine_visible_collision _ hvisible]
    exact roadLine_visible_eq _ hvisible
  · rw [roadLine_visible_collision _ hvisible, gatheredCollision_getLsbD]
    simp only [exists_swept_iff]
  · rw [decide_eq_true hminimal, roadLine_minimal_eq hvisible]
    exact ⟨rfl, rfl⟩
  · rw [roadLine_visible_frame _ hvisible, sweepColumns_other_frame _ _ _ _ hm]
  · obtain ⟨n, hn, rfl⟩ := (swept_iff s.cfg.road px).1 hpx
    rw [decide_eq_false (by simp [hfull]), roadLine_visible_frame _ hvisible,
      sweepColumns_full_frame s _ le_rfl, writeColumns_get_inside _ _ _ _ hwf _ hn hcovers]
  · rw [roadLine_visible_frame _ hvisible]
    cases decide (minimal = 1) with
    | true => rw [sweepColumns_minimal_frame]
    | false =>
      rw [sweepColumns_full_frame s _ le_rfl, writeColumns_get_outside]
      refine houtside.imp_right fun hpx k hk hcolumn => ?_
      exact Bool.false_ne_true (hpx.symm.trans ((swept_iff s.cfg.road px).2 ⟨k, hk, hcolumn⟩))

/-- Settles O37: both passes gather the same bits, and only the full one writes a frame. -/
theorem fullAndMinimalPassAgree : Obligations.FullAndMinimalPassAgree := by
  intro s y
  exact ⟨_, _, rfl, rfl, roadLine_full_minimal s y.toNat⟩

/-! ### The road pass of a frame (R322, R323) -/

section Video

variable {s t : State} (h : VideoFrame s t) (y : Nat)

include h

/-- What the road unit reads is not what the tile and sprite layers and the frames hold. -/
theorem road_inputs_of_videoFrame : t.cfg = s.cfg ∧ t.collision = s.collision ∧
    drawSlot t y = drawSlot s y ∧ lineEntry t y = lineEntry s y ∧
    lineOffRoad t y = lineOffRoad s y := by
  rw [VideoFrame] at h
  rw [h]
  exact ⟨rfl, rfl, drawSlot_congr y rfl rfl rfl, rfl, rfl⟩

theorem gatheredCollision_of_videoFrame (n : Nat) : gatheredCollision t y n = gatheredCollision s y n := by
  obtain ⟨hcfg, hcollision, hslot, hentry, hoffroad⟩ := road_inputs_of_videoFrame h y
  simp only [gatheredCollision, lineCollision, linePriority, lineSprite, roadGroupBuffer, hcfg,
    hcollision, hslot, hentry, hoffroad]

theorem roadLine_minimal_video : VideoFrame (roadLine true y s) (roadLine true y t) := by
  obtain ⟨hcfg, _⟩ := road_inputs_of_videoFrame h y
  by_cases hvisible : LineVisible s.cfg y
  · rw [roadLine_minimal_eq hvisible, roadLine_minimal_eq (hcfg ▸ hvisible),
      gatheredCollision_of_videoFrame h, hcfg]
    rw [VideoFrame] at h ⊢
    rw [h]
  · rwa [roadLine_of_not_visible _ s y hvisible, roadLine_of_not_visible _ t y (hcfg ▸ hvisible)]

theorem roadParams_video : VideoFrame (roadParams s) (roadParams t) := by
  rw [VideoFrame] at h
  rw [h]
  unfold roadParams
  split <;> rfl

end Video

/-- The full pass of a frame and the collision-only pass differ in what is drawn alone. -/
theorem roadPass_video {s t : State} (h : VideoFrame s t) :
    VideoFrame (roadPass true s) (roadPass false t) := by
  unfold roadPass
  rw [(road_inputs_of_videoFrame h 0).1]
  split
  · exact List.foldl_rel (roadParams_video h) fun y _ u v huv =>
      (roadLine_minimal_video huv y).trans (roadLine_full_minimal v y).video
  · exact h

/-- Settles O48: before its road pass a frame has drawn layers and frames alone, which the pass does not
read, and the presentation appends an event alone. -/
theorem frameAndCollOnlyAgree : Obligations.FrameAndCollOnlyAgree := by
  intro s full
  have h := roadPass_video (beforeRoad_video (full = 1) s)
  rw [VideoFrame] at h
  refine ⟨_, _, rfl, rfl, ?_⟩
  show (roadPass false (beforeRoad (full = 1) s)).collision = _ ∧
    (roadPass false (beforeRoad (full = 1) s)).sprparam = _ ∧
    (roadPass false (beforeRoad (full = 1) s)).sprxmap = _
  rw [h]
  exact ⟨rfl, rfl, rfl⟩

end Sys2Proof.Proofs
end

section
/-!
PROOFS. The palette mapper's functional statements: entry by entry what PAL.BUILD and PAL.CTBUILD make
(R301 to R306), and what the configuration check says of these entries (R304, R309).
-/

namespace Sys2Proof.Proofs

open Sys2Proof Sys2Proof.Machine

/-! ### Weights (R302) -/

/-- The fixed weights of the inverted family sum to 255, so the difference from 255 needs no borrow. -/
theorem weight_toNat_of_inverted {c : PaletteCfg} (h : c.inverted = true) (nib : Nibble) :
    (weight c nib).toNat = 255 - weightedSum 0x10 0x21 0x46 0x88 nib := by
  rw [weight, if_pos h, BitVec.toNat_ofNat]
  omega

theorem weight_toNat_of_not_inverted {c : PaletteCfg} (h : c.inverted = false) {nib : Nibble}
    (hsum : weightedSum c.weight0 c.weight1 c.weight2 c.weight3 nib ≤ 255) :
    (weight c nib).toNat = weightedSum c.weight0 c.weight1 c.weight2 c.weight3 nib := by
  rw [weight, if_neg (by simp [h])]
  dsimp only
  rw [if_pos hsum, BitVec.toNat_ofNat]
  omega

/-! ### Nibbles (R303) -/

/-- The value of four bits put together, the highest first. -/
theorem nibble_of_bits_toNat (b0 b1 b2 b3 : Bool) :
    (BitVec.ofBool b3 ++ BitVec.ofBool b2 ++ BitVec.ofBool b1 ++ BitVec.ofBool b0).toNat =
      b0.toNat + 2 * b1.toNat + 4 * b2.toNat + 8 * b3.toNat := by
  revert b0 b1 b2 b3
  decide

theorem palNibble_toNat (c : PaletteCfg) (e : Nat) (ch : Channel) :
    let n := openAt c.nibble (freeNibble c) (e, ch)
    (palNibble c e ch).toNat =
      (promBit c.colorProm n.b0).toNat + 2 * (promBit c.colorProm n.b1).toNat
        + 4 * (promBit c.colorProm n.b2).toNat + 8 * (promBit c.colorProm n.b3).toNat :=
  nibble_of_bits_toNat ..

/-! ### The RGB table (R301, R304) -/

theorem buildRgbTable_real (c : PaletteCfg) {e : Nat} (he : e < c.entries) :
    (buildRgbTable c)[e]? = some (rgbEntry c e) := by
  rw [buildRgbTable, List.getElem?_append_left (by simpa using he), List.getElem?_map,
    List.getElem?_range he, Option.map_some]

theorem buildRgbTable_marker (c : PaletteCfg) :
    (buildRgbTable c)[c.entries]? = some c.transparentRGB := by
  simp [buildRgbTable]

theorem exec_palBuild_eq (s : State) :
    exec .palBuild s = .next { s with rgbtable := buildRgbTable s.cfg.pal } := rfl

/-- Settles O40: the table is `buildRgbTable`, and its nibbles and weights are those of R302 and R303. -/
theorem paletteBuild : Obligations.PaletteBuild := by
  intro s c
  refine ⟨⟨_, exec_palBuild_eq s, buildRgbTable_length c, buildRgbTable_marker c,
    fun e he => buildRgbTable_real c he⟩, ?_, fun nib h => weight_toNat_of_inverted h nib,
    fun _ h => weight_toNat_of_not_inverted h⟩
  rintro e ch n rfl
  exact palNibble_toNat c e ch

/-! ### Colour tables (R306) -/

theorem isTransparentValue_iff (ct : ColorTableCfg) (v : Nat) :
    isTransparentValue ct v = true ↔ v % (ct.period : Nat) ∈ ct.residues := by
  rw [isTransparentValue, List.contains_iff_mem]

theorem colorEntry_eq (t : Nat) (ct : ColorTableCfg) (v : Nat) : colorEntry t ct v =
    if v % (ct.period : Nat) ∈ ct.residues then t else ct.base + (v ^^^ ct.xorMask) := by
  simp only [colorEntry, isTransparentValue_iff]

theorem buildColorTable_getElem? (t : Nat) (ct : ColorTableCfg) {v : Nat} (hv : v < ct.total) :
    (buildColorTable t ct)[v]? = some (colorEntry t ct v) := by
  rw [buildColorTable, List.getElem?_map, List.getElem?_range hv, Option.map_some]

theorem exec_palCtBuild_of_some {s : State} {g : BitVec 3} {ct : ColorTableCfg}
    (h : s.cfg.cts[g.toNat]? = some ct) : exec (.palCtBuild g) s =
      .next { s with
        colortable := s.colortable.set g.toNat (buildColorTable (transparent s.cfg) ct) } := by
  show execPalCtBuild g s = _
  rw [execPalCtBuild, h]

theorem exec_palCtBuild_of_none {s : State} {g : BitVec 3} (h : s.cfg.cts[g.toNat]? = none) :
    exec (.palCtBuild g) s = .next s := by
  show execPalCtBuild g s = _
  rw [execPalCtBuild, h]

/-- Settles O41: a layer that exists gets `buildColorTable`, entry by entry R306. -/
theorem colorTableBuild : Obligations.ColorTableBuild := by
  intro s g
  refine ⟨fun h => exec_palCtBuild_of_none (List.getElem?_eq_none h), fun ct hct =>
    ⟨_, exec_palCtBuild_of_some hct, buildColorTable_length _ ct, fun v hv => ?_⟩⟩
  rw [buildColorTable_getElem? _ ct hv, colorEntry_eq, transparent]

/-! ### Tables of a checked board (R304, R309, R346) -/

section Checked

variable {c : Config} (hcheck : checkConfiguration c = none)

include hcheck

/-- The weights of no three nibbles make the marker, and a real entry is the weights of three nibbles. -/
theorem rgbEntry_ne_transparentRGB (e : Nat) : rgbEntry c.pal e ≠ c.pal.transparentRGB := fun h =>
  (checkConfiguration_eq_none_iff c).1 hcheck .transparentRgb ⟨_, _, _, h.symm⟩

/-- A value that is not transparent gives a real index, as its layer's range check says. -/
theorem colorEntry_le_entries {ct : ColorTableCfg} (hct : ct ∈ c.cts) {v : Nat} (hv : v < ct.total) :
    colorEntry (transparent c) ct v ≤ c.pal.entries := by
  rw [colorEntry_eq]
  split_ifs with hresidue
  · exact le_rfl
  · obtain ⟨g, hg⟩ := List.mem_iff_getElem?.1 hct
    by_contra hbeyond
    exact (checkConfiguration_eq_none_iff c).1 hcheck (.ctRange g)
      ⟨ct, hg, v, hv, hresidue, .inr (Nat.le_of_not_le hbeyond)⟩

end Checked

/-- Settles O42: the check's rows on `TRANSPARENT_RGB` and on the ranges of the colour tables. -/
theorem transparentMarkerIsUnique : Obligations.TransparentMarkerIsUnique := by
  intro c hcheck
  constructor
  · intro e he hmarker
    rw [buildRgbTable_real c.pal he] at hmarker
    exact rgbEntry_ne_transparentRGB hcheck e (Option.some.inj hmarker)
  · intro table htable v hv
    obtain ⟨ct, hct, rfl⟩ := List.mem_map.1 htable
    obtain ⟨raw, hraw, rfl⟩ := List.mem_map.1 hv
    exact colorEntry_le_entries hcheck hct (List.mem_range.1 hraw)

end Sys2Proof.Proofs
end

section
/-!
PROOFS. The built tables as an invariant (R307): which operations write neither the board nor a table, and
why those that rebuild one write what already stands there.
-/

namespace Sys2Proof.Proofs

open Sys2Proof Sys2Proof.Machine

/-! ### Operations that write neither the board nor a table -/

/-- The board, the RGB table and the colour tables are as they were. -/
structure KeepsTables (s t : State) : Prop where
  cfg : t.cfg = s.cfg
  rgbtable : t.rgbtable = s.rgbtable
  colortable : t.colortable = s.colortable

theorem KeepsTables.tablesBuilt {s t : State} (h : KeepsTables s t) (hs : s.tablesBuilt) :
    t.tablesBuilt := by
  rwa [State.tablesBuilt, h.cfg, h.rgbtable, h.colortable]

section Frames

variable {s t : State}

theorem keepsTables_of_registersOnly (h : RegistersOnly s t) : KeepsTables s t := by
  rw [h]
  exact ⟨rfl, rfl, rfl⟩

theorem keepsTables_of_videoFrame (h : VideoFrame s t) : KeepsTables s t := by
  rw [h]
  exact ⟨rfl, rfl, rfl⟩

theorem keepsTables_of_passFrame (h : PassFrame s t) : KeepsTables s t := by
  rw [h]
  exact ⟨rfl, rfl, rfl⟩

theorem keepsTables_of_bankOnly (h : BankOnly s t) : KeepsTables s t := by
  rw [h.frame]
  exact ⟨rfl, rfl, rfl⟩

theorem keepsTables_of_answered (h : Answered s t) : KeepsTables s t := by
  obtain ⟨_, v, ⟨asked, rfl, _⟩, rfl⟩ := h
  exact ⟨rfl, rfl, rfl⟩

end Frames

section KeepsTablesYields

variable (s : State)

theorem speechLine_registersOnly {t : State} {line : SpeechLine} {v : Byte}
    (h : RegistersOnly s t) : RegistersOnly s (speechLine t line v) := by
  rw [speechLine_eq, h]
  rfl

theorem renderFrame_keepsTables (fullRefresh : Bool) : KeepsTables s (renderFrame fullRefresh s) := by
  have hbefore := keepsTables_of_videoFrame (beforeRoad_video fullRefresh s)
  have hpass := keepsTables_of_passFrame (roadPass_frame false (beforeRoad fullRefresh s))
  rw [renderFrame_eq]
  exact ⟨hpass.cfg.trans hbefore.cfg, hpass.rgbtable.trans hbefore.rgbtable,
    hpass.colortable.trans hbefore.colortable⟩

theorem vramWr_keepsTables (L : BitVec 3) (n : BitVec 16) (d : Byte) :
    Yields (KeepsTables s) (execVramWr L n d s) := by
  unfold execVramWr
  split
  · exact .next ⟨rfl, rfl, rfl⟩
  · exact .ite (.next ⟨rfl, rfl, rfl⟩) (.next ⟨rfl, rfl, rfl⟩)

theorem sprRamWr_keepsTables (S : BitVec 1) (n : BitVec 15) (d : Byte) :
    Yields (KeepsTables s) (execSprRamWr S n d s) := by
  refine .ite (.next ?_) (.next ⟨rfl, rfl, rfl⟩)
  exact ⟨State.setSprite_cfg .., State.setSprite_rgbtable .., State.setSprite_colortable ..⟩

theorem sprCtrlWr_keepsTables (S : BitVec 1) (r : BitVec 15) (d : Byte) :
    Yields (KeepsTables s) (execSprCtrlWr S r d s) := by
  unfold execSprCtrlWr
  split_ifs <;> exact .next ⟨rfl, rfl, rfl⟩

theorem roadRegWr_keepsTables (k : BitVec 3) (d : Byte) :
    Yields (KeepsTables s) (execRoadRegWr k d s) := by
  unfold execRoadRegWr
  split_ifs <;> exact .next ⟨rfl, rfl, rfl⟩

theorem protWr_keepsTables (o : BitVec 4) (d : Byte) :
    Yields (KeepsTables s) (execProtWr o d s) := by
  intro t h
  obtain rfl | ⟨v, rfl⟩ | ⟨a, rfl⟩ := protWriteAction_next s h
  · exact ⟨rfl, rfl, rfl⟩
  · exact ⟨rfl, rfl, rfl⟩
  · obtain hwrite | hwrite := mainMemWrite_cases s a d <;> rw [hwrite] <;> exact ⟨rfl, rfl, rfl⟩

theorem palbankWr_keepsTables (d : Byte) :
    KeepsTables s (markToggled (bankToggled d s) { s with palbank := d }) := by
  obtain ⟨hframe, _⟩ := markToggled_dirtyOnly (bankToggled d s) { s with palbank := d }
  rw [hframe]
  exact ⟨rfl, rfl, rfl⟩

end KeepsTablesYields

/-! ### Operations that write a table -/

theorem resetState_tablesBuilt (s : State) : (resetState s).tablesBuilt := ⟨rfl, rfl⟩

theorem palBuild_tablesBuilt {s : State} (h : s.tablesBuilt) :
    Yields State.tablesBuilt (exec .palBuild s) := by
  obtain ⟨_, hcolor⟩ := h
  exact .next ⟨rfl, hcolor⟩

/-- The colour tables after a rebuild are those that stood there (R307), and the RGB table is not
written. -/
theorem palCtBuild_tablesBuilt {s : State} (h : s.tablesBuilt) (g : BitVec 3) :
    Yields State.tablesBuilt (exec (.palCtBuild g) s) := by
  obtain ⟨hrgb, hcolor⟩ := h
  cases hct : s.cfg.cts[g.toNat]? with
  | none =>
    rw [exec_palCtBuild_of_none hct]
    exact .next ⟨hrgb, hcolor⟩
  | some ct =>
    have hkept := palCtBuild_keepsTiles s g hcolor _ (exec_palCtBuild_of_some hct)
    rw [exec_palCtBuild_of_some hct]
    exact .next ⟨hrgb, hkept.colortable.trans hcolor⟩

theorem seqReset_tablesBuilt (s : State) : Yields State.tablesBuilt (exec .seqReset s) := by
  cases hcheck : checkConfiguration s.cfg with
  | none =>
    rw [exec_seqReset_of_none hcheck]
    exact .next (resetState_tablesBuilt s)
  | some name =>
    rw [exec_seqReset_of_some hcheck]
    rintro t ⟨⟩

/-! ### The invariant -/

/-- Every operation keeps the built tables: SEQ.RESET, PAL.BUILD and PAL.CTBUILD write them, and the others
write neither a table nor the board. -/
theorem exec_tablesBuilt {s : State} (hs : s.tablesBuilt) (i : Instr) :
    Yields State.tablesBuilt (exec i s) := by
  have keeps {r : Result} (hr : Yields (KeepsTables s) r) : Yields State.tablesBuilt r :=
    hr.mono fun _ ht => ht.tablesBuilt hs
  have same {t : State} (ht : KeepsTables s t) : Yields State.tablesBuilt (.next t) := keeps (.next ht)
  have registers {t : State} (ht : RegistersOnly s t) : Yields State.tablesBuilt (.next t) :=
    same (keepsTables_of_registersOnly ht)
  have ranged {p : Prop} [Decidable p] {t : State} (ht : KeepsTables s t) :
      Yields State.tablesBuilt (if p then .next t else oorWrite s) := .ite (same ht) (registers rfl)
  have video {t : State} (ht : VideoFrame s t) : Yields State.tablesBuilt (.next t) :=
    same (keepsTables_of_videoFrame ht)
  have road {t : State} (ht : PassFrame s t) : Yields State.tablesBuilt (.next t) :=
    same (keepsTables_of_passFrame ht)
  have bank {r : Result} (hr : Yields (BankOnly s) r) : Yields State.tablesBuilt r :=
    keeps (hr.mono fun _ => keepsTables_of_bankOnly)
  have read (hi : ReadOp i) : Yields State.tablesBuilt (exec i s) := by
    obtain ⟨t, ht, hanswered⟩ := exec_answers hi s
    rw [ht]
    exact same (keepsTables_of_answered hanswered)
  cases i with
  | seqReset => exact seqReset_tablesBuilt s
  | palBuild => exact palBuild_tablesBuilt hs
  | palCtBuild g => exact palCtBuild_tablesBuilt hs g
  | seqFrame fullRefresh => exact same (renderFrame_keepsTables s _)
  | seqCollOnly => exact road (roadPass_frame true s)
  | roadParams => exact road (roadParams_pass s)
  | roadLine minimal y => exact road (roadLine_frame _ _ s).pass
  | seqScrollComp => exact video (scrollComp_framesOnly s).video
  | tileRender L => exact video (tileRender_video _ s)
  | sprRefresh S =>
    exact .ite (video (spriteRefresh_video .big0 s))
      (.ite (video (spriteRefresh_video .big1 s)) (registers rfl))
  | sprComposite0 => exact video (composite0_framesOnly s).video
  | sprComposite1 => exact video (composite1_framesOnly s).video
  | vramWr L n d => exact keeps (vramWr_keepsTables s L n d)
  | sprRamWr S n d => exact keeps (sprRamWr_keepsTables s S n d)
  | sprCtrlWr S r d => exact keeps (sprCtrlWr_keepsTables s S r d)
  | ctlPalbankWr d => exact same (palbankWr_keepsTables s d)
  | ctlScrollWr n d => exact ranged ⟨rfl, rfl, rfl⟩
  | roadRegWr k d => exact keeps (roadRegWr_keepsTables s k d)
  | roadSprWr n d => exact ranged ⟨rfl, rfl, rfl⟩
  | roadCollClr => exact same ⟨rfl, rfl, rfl⟩
  | nvExport => exact same ⟨rfl, rfl, rfl⟩
  | nvImport => exact same ⟨rfl, rfl, rfl⟩
  | nvWr n d => exact ranged ⟨rfl, rfl, rfl⟩
  | ppiInit n => exact bank (ppiInit_bankOnly n s)
  | ppiWrA c d => exact bank (writePort_bankOnly c .a d s)
  | ppiWrB c d => exact bank (writePort_bankOnly c .b d s)
  | ppiWrC c d => exact bank (writePort_bankOnly c .c d s)
  | ppiWrMode c ga da dcu gb db dcl => exact bank (ppiWrMode_bankOnly c ga da dcu gb db dcl s)
  | ppiWrBsr c x n b => exact bank (ppiWrBsr_bankOnly c x n b s)
  | protWr13 d => exact same ⟨rfl, rfl, rfl⟩
  | protWr o d => exact keeps (protWr_keepsTables s o d)
  | sndLatchWr n d => exact .ite (registers rfl) (registers rfl)
  | sndSpeechResetWr level => exact registers (speechLine_registersOnly s rfl)
  | sndSpeechStartWr level => exact registers (speechLine_registersOnly s rfl)
  | sndSpeechVcuWr level => exact registers (speechLine_registersOnly s rfl)
  | sndSpeechDataWr d => exact registers (speechLine_registersOnly s rfl)
  | sndCpuResetWr d =>
    refine registers ?_
    rw [soundCpuReset_eq]
    rfl
  | ppiRdA c => exact read (.ppiA c)
  | ppiRdB c => exact read (.ppiB c)
  | ppiRdC c => exact read (.ppiC c)
  | ppiRdCtrl c => exact read (.ppiCtrl c)
  | protRd13 => exact read .prot13
  | protRd o => exact read (.prot o)
  | sndLatchRd n => exact read (.sndLatch n)
  | vramRd L n => exact read (.vram L n)
  | sprRamRd S n => exact read (.sprRam S n)
  | sprCtrlRd S r => exact read (.sprCtrl S r)
  | roadCollRd => exact read .roadColl
  | roadRegRd k => exact read (.roadReg k)
  | roadSprRd n => exact read (.roadSpr n)
  | ctlPalbankRd => exact read .palbank
  | ctlScrollRd n => exact read (.scroll n)
  | nvRd n => exact read (.nv n)
  | inpRd n => exact read (.inp n)
  | busOor unit w => exact .ite (registers rfl) (registers rfl)

/-- Settles O43: taking a request writes no table, and every operation keeps the built ones. -/
theorem stepKeepsTheTables : Obligations.StepKeepsTheTables := by
  intro s t hbuilt hstep
  obtain ⟨_, rfl⟩ | ⟨r, rest, _, ⟨_, rfl⟩ | ⟨tw, _, hexec⟩⟩ := step_next hstep
  · exact hbuilt
  · exact hbuilt
  · exact exec_tablesBuilt (s := takeRequest s r rest) hbuilt (decode tw) t hexec

end Sys2Proof.Proofs
end

section
/-!
PROOFS. A frame and the host (R330): no step of a frame reads the trace, the clock or what travels beside the
request, so each step commutes with replacing them.
-/

namespace Sys2Proof.Proofs

open Sys2Proof Sys2Proof.Machine

/-! ### Replacing what lies outside the block -/

/-- The state with other inputs beside its request, another trace and another clock (R85, R86). -/
def outside (inputs : Beside) (trace : List Event) (clock : Nat) (s : State) : State :=
  { s with inputs := inputs, trace := trace, clock := clock }

/-- The operation neither reads nor writes what lies outside the block. -/
def IgnoresOutside (f : State → State) : Prop :=
  ∀ inputs trace clock, Function.Commute f (outside inputs trace clock)

theorem IgnoresOutside.comp {f g : State → State} (hf : IgnoresOutside f) (hg : IgnoresOutside g) :
    IgnoresOutside (f ∘ g) := fun inputs trace clock =>
  (hf inputs trace clock).comp_left (hg inputs trace clock)

/-- A loop ignores what each of its steps ignores. -/
theorem ignoresOutside_foldl {δ : Type} {f : State → δ → State} (hf : ∀ d, IgnoresOutside (f · d))
    (l : List δ) : IgnoresOutside (l.foldl f) := fun inputs trace clock _ =>
  List.foldl_hom (outside inputs trace clock) fun t d => hf d inputs trace clock t

theorem setFrame_outside (inputs : Beside) (trace : List Event) (clock : Nat) (s : State) (m : Monitor)
    (p : Pixmap) : (outside inputs trace clock s).setFrame m p =
      outside inputs trace clock (s.setFrame m p) := by
  cases m <;> rfl

theorem frame_outside (inputs : Beside) (trace : List Event) (clock : Nat) (s : State) (m : Monitor) :
    (outside inputs trace clock s).frame m = s.frame m := by
  cases m <;> rfl

/-! ### Layers and composites (R213, R233, R236, R244, R325) -/

theorem markEverything_ignores : IgnoresOutside markEverything := fun _ _ _ _ => rfl

theorem tileRender_ignores (L : Nat) : IgnoresOutside (tileRender L) := by
  intro inputs trace clock s
  have htile : (outside inputs trace clock s).tile? L = s.tile? L := rfl
  rw [tileRender, tileRender, htile]
  split <;> rfl

theorem renderAllTiles_ignores : IgnoresOutside renderAllTiles := fun inputs trace clock s =>
  ignoresOutside_foldl tileRender_ignores (List.range s.cfg.tiles.length) inputs trace clock s

theorem spriteRefresh_ignores (S : SpriteId) : IgnoresOutside (spriteRefresh S) := by
  cases S <;> exact fun _ _ _ _ => rfl

theorem scrollLayer_ignores (L : Nat) : IgnoresOutside (scrollLayer · L) := by
  intro inputs trace clock s
  have htile : (outside inputs trace clock s).tile? L = s.tile? L := rfl
  dsimp only
  rw [scrollLayer, scrollLayer, htile]
  split
  · rw [frame_outside]
    exact setFrame_outside ..
  · rfl

theorem scrollComp_ignores : IgnoresOutside scrollComp := fun inputs trace clock s =>
  ignoresOutside_foldl scrollLayer_ignores (List.range s.cfg.tiles.length) inputs trace clock s

theorem blit_ignores (m : Monitor) (t : BsTransform) : IgnoresOutside (blit m t) := by
  cases m <;> exact fun _ _ _ _ => rfl

theorem blitIf_ignores (on : Bool) (m : Monitor) (t : BsTransform) : IgnoresOutside (blitIf on m t) := by
  cases on
  · exact fun _ _ _ _ => rfl
  · exact blit_ignores m t

theorem composite0_ignores : IgnoresOutside composite0 := by
  intro inputs trace clock s
  by_cases h : (bsDecode s.cfg.bigSprite s.bsctrl).zoom = 0
  · rw [composite0_of_zoom_zero h]
    exact composite0_of_zoom_zero h
  · rw [composite0_of_zoom h]
    exact (composite0_of_zoom (s := outside inputs trace clock s) h).trans
      ((blitIf_ignores _ .bottom _).comp (blitIf_ignores _ .top _) inputs trace clock s)

theorem composite1_ignores : IgnoresOutside composite1 := by
  intro inputs trace clock s
  rw [composite1, frame_outside]
  exact setFrame_outside ..

theorem beforeRoad_ignores (fullRefresh : Bool) : IgnoresOutside (beforeRoad fullRefresh) := by
  have hlayers (f : State → State) (hf : IgnoresOutside f) : IgnoresOutside fun s =>
      composite1 (composite0 (scrollComp (spriteRefresh .big1 (spriteRefresh .big0
        (renderAllTiles (f s)))))) :=
    composite1_ignores.comp (composite0_ignores.comp (scrollComp_ignores.comp
      ((spriteRefresh_ignores .big1).comp ((spriteRefresh_ignores .big0).comp
        (renderAllTiles_ignores.comp hf)))))
  cases fullRefresh
  · exact hlayers id fun _ _ _ _ => rfl
  · exact hlayers markEverything markEverything_ignores

/-! ### The road pass (R261, R272) -/

theorem drawSpriteGroup_ignores (offroad : Bool) (y : Nat) :
    IgnoresOutside (drawSpriteGroup · offroad y) := by
  intro inputs trace clock s
  have hslot : drawSlot (outside inputs trace clock s) y = drawSlot s y := drawSlot_congr y rfl rfl rfl
  dsimp only
  rw [drawSpriteGroup, hslot]
  rfl

theorem offRoadTrigger_ignores (y : Nat) (acciar : Bool) :
    IgnoresOutside (offRoadTrigger · y acciar) := by
  intro inputs trace clock s
  have hgroup := drawSpriteGroup_ignores true y inputs trace clock s
  dsimp only at hgroup ⊢
  rw [offRoadTrigger, offRoadTrigger, hgroup, apply_ite (outside inputs trace clock)]
  rfl

theorem writeRoadPixel_ignores (y px babit coch : Nat) (sprpri : Nibble) :
    IgnoresOutside (writeRoadPixel · y px babit coch sprpri) := by
  intro inputs trace clock s
  dsimp only
  rw [writeRoadPixel, frame_outside]
  exact setFrame_outside ..

theorem roadPixelStep_ignores (minimal : Bool) (y va x i : Nat) :
    IgnoresOutside (roadPixelStep minimal y va x · i) := by
  intro inputs trace clock s
  have htrigger (acciar : Bool) := offRoadTrigger_ignores y acciar inputs trace clock s
  dsimp only at htrigger ⊢
  rw [roadPixelStep, roadPixelStep, htrigger]
  cases minimal
  · rw [if_neg Bool.false_ne_true, if_neg Bool.false_ne_true]
    exact writeRoadPixel_ignores y (x + i) _ _ _ inputs trace clock
      (orCollision (offRoadTrigger s y _) _ _)
  · rfl

theorem beginScanline_ignores (y : Nat) : IgnoresOutside (beginScanline · y) :=
  fun inputs trace clock s => drawSpriteGroup_ignores false y inputs trace clock { s with
    sprbuf := List.replicate (s.cfg.road.xLast + 1 - s.cfg.road.xFirst) s.cfg.road.sprEmpty
    offroadDrawn := false }

theorem sweepOver_ignores (minimal : Bool) (y va : Nat) (pixels : List (Nat × Nat)) :
    IgnoresOutside (sweepOver minimal y va pixels) :=
  ignoresOutside_foldl (f := fun u (xi : Nat × Nat) => roadPixelStep minimal y va xi.1 u xi.2)
    (fun xi => roadPixelStep_ignores minimal y va xi.1 xi.2) pixels

theorem sweepColumns_ignores (minimal : Bool) (y n : Nat) :
    IgnoresOutside (sweepColumns minimal · y n) := by
  intro inputs trace clock s
  have hbegin := beginScanline_ignores y inputs trace clock s
  dsimp only at hbegin ⊢
  rw [sweepColumns, hbegin]
  exact sweepOver_ignores minimal y (vertAddr s y) (firstPixels s.cfg.road n) inputs trace clock
    (beginScanline s y)

theorem roadLine_ignores (minimal : Bool) (y : Nat) : IgnoresOutside (roadLine minimal y) := by
  intro inputs trace clock s
  by_cases h : LineVisible s.cfg y
  · have hsweep := sweepColumns_ignores minimal y (sweptColumns s.cfg.road) inputs trace clock s
    rw [roadLine_of_visible _ _ _ h]
    exact (roadLine_of_visible _ (outside inputs trace clock s) _ h).trans (congrArg endScanline hsweep)
  · rw [roadLine_of_not_visible _ _ _ h]
    exact roadLine_of_not_visible _ (outside inputs trace clock s) _ h

theorem roadParams_ignores : IgnoresOutside roadParams := by
  intro inputs trace clock s
  rw [roadParams, roadParams, apply_ite (outside inputs trace clock)]
  rfl

theorem roadPass_ignores (minimal : Bool) : IgnoresOutside (roadPass minimal) := by
  intro inputs trace clock s
  rw [roadPass, roadPass, roadParams_ignores inputs trace clock s, apply_ite (outside inputs trace clock)]
  exact if_congr Iff.rfl (ignoresOutside_foldl (roadLine_ignores minimal) _ inputs trace clock _) rfl

/-! ### SEQ.FRAME (R322, R330) -/

/-- A frame up to its presentation. -/
def drawFrame (fullRefresh : Bool) (s : State) : State := roadPass false (beforeRoad fullRefresh s)

theorem exec_seqFrame_eq (full : BitVec 1) (s : State) :
    exec (.seqFrame full) s = .next (framePresent (drawFrame (full = 1) s)) := rfl

theorem drawFrame_ignores (fullRefresh : Bool) : IgnoresOutside (drawFrame fullRefresh) :=
  (roadPass_ignores false).comp (beforeRoad_ignores fullRefresh)

/-- Only the presentation appends to the trace. -/
theorem drawFrame_trace (fullRefresh : Bool) (s : State) : (drawFrame fullRefresh s).trace = s.trace :=
  (trace_of_passFrame (roadPass_frame false _)).trans
    (trace_of_videoFrame (beforeRoad_video fullRefresh s))

/-- Settles O50: a frame up to its presentation ignores what lies outside the block, and the presentation
reads the frames alone. -/
theorem frameIgnoresTheHost : Obligations.FrameIgnoresTheHost := by
  intro s t full inputs clock h
  rw [exec_seqFrame_eq] at h ⊢
  obtain rfl := Host.Outcome.next.inj h
  have hdraw := drawFrame_ignores (full = 1) inputs s.trace clock s
  rw [show { s with inputs := inputs, clock := clock } = outside inputs s.trace clock s from rfl, hdraw,
    ← drawFrame_trace (full = 1) s]
  rfl

end Sys2Proof.Proofs
end

section
/-!
PROOFS. SEQ.SCROLLCOMP pixel by pixel (R325): layer after layer writes the visible pixels it covers, so a
pixel ends up with what the last layer that covers it shows.
-/

namespace Sys2Proof.Proofs

open Sys2Proof Sys2Proof.Machine

/-! ### What one layer shows -/

theorem scrolledColumn_eq (s : State) (L : Nat) (tc : TileCfg) (bx : Int) (row : Nat) :
    scrolledColumn s L tc bx row =
      if L = s.cfg.scrollLayer ∧ 0 < s.cfg.scrollRows then
        (bx + (if s.cfg.scrollNegative then -1 else 1) * (scrollOffset s.scroll (row / 8) : Int)) %
          ((8 * tc.cols : Nat) : Int)
      else bx := by
  rw [scrolledColumn]
  cases s.cfg.scrollNegative <;> simp [Int.sub_eq_add_neg]

/-- The pixel `shownAt` names stands in the column `scrolledColumn` gives. -/
theorem shownAt_eq (s : State) (L : Nat) (tc : TileCfg) (x y : Nat) : shownAt s L tc x y =
    let row : Int := y - tc.orgY
    let column := scrolledColumn s L tc (x - tc.orgX) row.toNat
    if (0 ≤ row ∧ row < (8 * tc.rows : Nat)) ∧ 0 ≤ column ∧ column < (8 * tc.cols : Nat) then
      some (column.toNat, row.toNat)
    else none := by
  dsimp only
  rw [scrolledColumn_eq, ite_and]
  rfl

/-- The composite takes from a layer's bitmap the pixel that `shownAt` names. -/
theorem scrollSource_eq_shownAt (s : State) (L : Nat) (tc : TileCfg) (src : Pixmap) (x y : Nat) :
    scrollSource s L tc src (x, y) = (shownAt s L tc x y).map fun b => src.get b.1 b.2 := by
  rw [shownAt_eq, scrollSource]
  dsimp only
  split_ifs <;> rfl

/-- The pixel of tile layer L that monitor m shows at a place, where it shows one. -/
def shownPixel (s : State) (m : Monitor) (L : Nat) (d : Nat × Nat) : Option Nat :=
  (s.tile? L).bind fun layer =>
    if layer.1.mon = m then scrollSource s L layer.1 layer.2.bitmap d else none

section ShownPixel

variable {s : State} {m : Monitor} {L x y : Nat} {tc : TileCfg} {tl : TileLayer}

theorem shownPixel_of_shownAt (htc : s.cfg.tiles[L]? = some tc) (htl : s.tiles[L]? = some tl)
    (hm : tc.mon = m) {b : Nat × Nat} (hb : shownAt s L tc x y = some b) :
    shownPixel s m L (x, y) = some (tl.bitmap.get b.1 b.2) := by
  rw [shownPixel, tile?_of_layer htc htl, Option.bind_some, if_pos hm, scrollSource_eq_shownAt, hb,
    Option.map_some]

theorem shownPixel_eq_none
    (h : ¬∃ tc, s.cfg.tiles[L]? = some tc ∧ tc.mon = m ∧ shownAt s L tc x y ≠ none) :
    shownPixel s m L (x, y) = none := by
  refine Option.bind_eq_none_iff.2 fun ⟨tc, tl⟩ hlayer => ?_
  obtain ⟨htc, _⟩ := (tile?_eq_some s).1 hlayer
  split_ifs with hm
  · rw [scrollSource_eq_shownAt, Option.map_eq_none_iff]
    by_contra hshown
    exact h ⟨tc, htc, hm, hshown⟩
  · rfl

end ShownPixel

/-! ### One layer (R325) -/

theorem paint_nothing {δ : Type} (f : δ → Nat × Nat) {w : δ → Option Nat} (hw : ∀ d, w d = none)
    (l : List δ) (p : Pixmap) : l.foldl (paint f w) p = p :=
  foldl_keeps (P := (· = p)) l p (fun q d _ hq => by rwa [paint, hw d]) rfl

/-- Each layer paints both monitors, the other one with nothing. -/
theorem scrollLayer_frame (s : State) (m : Monitor) (L : Nat) : (scrollLayer s L).frame m =
    (rectPixels (s.vis m)).foldl (paint id (shownPixel s m L)) (s.frame m) := by
  rw [scrollLayer]
  cases hlayer : s.tile? L with
  | none => exact (paint_nothing id (fun d => by rw [shownPixel, hlayer, Option.bind_none]) _ _).symm
  | some layer =>
    obtain ⟨tc, tl⟩ := layer
    dsimp only
    by_cases hm : tc.mon = m
    · have hshown : shownPixel s m L = scrollSource s L tc tl.bitmap := by
        funext d
        rw [shownPixel, hlayer, Option.bind_some, if_pos hm]
      rw [hm, setFrame_frame_same, scrollPixel_eq_paint, hshown]
    · rw [setFrame_frame_ne _ _ (Ne.symm hm)]
      exact (paint_nothing id (fun d => by rw [shownPixel, hlayer, Option.bind_some, if_neg hm]) _ _).symm

section ScrollLayer

variable {s : State} {m : Monitor} {L x y : Nat}

theorem scrollLayer_get_shown (hwf : (s.frame m).wf) (hcovers : (s.frame m).covers x y = true)
    (hvis : inVis s m x y) {v : Nat} (hv : shownPixel s m L (x, y) = some v) :
    ((scrollLayer s L).frame m).get x y = v := by
  rw [scrollLayer_frame]
  refine paint_get_inside id _ _ _ x y v hwf hcovers ?_ ⟨(x, y), (mem_vis_iff s m x y).2 hvis, rfl, hv⟩
  rintro d - - rfl
  exact hv

theorem scrollLayer_get_kept (h : ¬inVis s m x y ∨ shownPixel s m L (x, y) = none) :
    ((scrollLayer s L).frame m).get x y = (s.frame m).get x y := by
  rw [scrollLayer_frame]
  refine paint_get_outside id _ _ _ x y ?_
  rintro d hd hshown rfl
  exact h.elim (· ((mem_vis_iff s m x y).1 hd)) hshown

/-- A layer keeps the canonical form and the size of the frames. -/
theorem scrollLayer_frame_kept (hwf : (s.frame m).wf) (hcovers : (s.frame m).covers x y = true) :
    ((scrollLayer s L).frame m).wf ∧ ((scrollLayer s L).frame m).covers x y = true := by
  rw [scrollLayer_frame]
  exact ⟨paint_wf _ _ _ hwf, paint_keeps (P := fun p => p.covers x y = true)
    (fun p _ _ _ hp => by rwa [Pixmap.set_covers]) _ _ _ _ hcovers⟩

end ScrollLayer

/-! ### Layer after layer -/

/-- The state after the composites of the first n layers. -/
def scrollFirst (s : State) (n : Nat) : State := (List.range n).foldl scrollLayer s

theorem scrollFirst_succ (s : State) (n : Nat) :
    scrollFirst s (n + 1) = scrollLayer (scrollFirst s n) n := by
  rw [scrollFirst, List.range_succ, List.foldl_concat]
  rfl

theorem scrollLayer_framesOnly (s : State) (L : Nat) : FramesOnly s (scrollLayer s L) := by
  unfold scrollLayer
  split
  exacts [setFrame_framesOnly _ _ _, rfl]

theorem scrollFirst_framesOnly (s : State) (n : Nat) : FramesOnly s (scrollFirst s n) :=
  foldl_keeps (P := FramesOnly s) _ s (fun t L _ h => h.trans (scrollLayer_framesOnly t L)) rfl

section ScrollFirst

variable {s : State} {m : Monitor} {x y : Nat}

/-- What a layer shows is not what the layers before it write. -/
theorem shown_of_framesOnly {t : State} (h : FramesOnly s t) (L : Nat) :
    shownPixel t m L (x, y) = shownPixel s m L (x, y) ∧ (inVis t m x y ↔ inVis s m x y) := by
  rw [h]
  exact ⟨rfl, Iff.rfl⟩

theorem scrollFirst_frame_kept (hwf : (s.frame m).wf) (hcovers : (s.frame m).covers x y = true)
    (n : Nat) : ((scrollFirst s n).frame m).wf ∧ ((scrollFirst s n).frame m).covers x y = true :=
  foldl_keeps (P := fun t : State => (t.frame m).wf ∧ (t.frame m).covers x y = true) _ s
    (fun _ _ _ h => scrollLayer_frame_kept h.1 h.2) ⟨hwf, hcovers⟩

theorem scrollFirst_succ_kept (n : Nat) (h : ¬inVis s m x y ∨ shownPixel s m n (x, y) = none) :
    ((scrollFirst s (n + 1)).frame m).get x y = ((scrollFirst s n).frame m).get x y := by
  obtain ⟨hshown, hvis⟩ := shown_of_framesOnly (m := m) (x := x) (y := y) (scrollFirst_framesOnly s n) n
  rw [scrollFirst_succ]
  exact scrollLayer_get_kept (by rwa [hshown, hvis])

theorem scrollFirst_get_kept (h : ∀ L, ¬inVis s m x y ∨ shownPixel s m L (x, y) = none) (n : Nat) :
    ((scrollFirst s n).frame m).get x y = (s.frame m).get x y := by
  induction n with
  | zero => rfl
  | succ n ih => rw [scrollFirst_succ_kept n (h n), ih]

/-- The last layer that shows a pixel there is the one seen. -/
theorem scrollFirst_get_shown (hwf : (s.frame m).wf) (hcovers : (s.frame m).covers x y = true)
    (hvis : inVis s m x y) {L v : Nat} (hv : shownPixel s m L (x, y) = some v)
    (hlater : ∀ L', L < L' → shownPixel s m L' (x, y) = none) {n : Nat} (hL : L < n) :
    ((scrollFirst s n).frame m).get x y = v := by
  induction n with
  | zero => exact absurd hL (Nat.not_lt_zero L)
  | succ n ih =>
    obtain hlt | rfl := Nat.lt_succ_iff_lt_or_eq.1 hL
    · rw [scrollFirst_succ_kept n (.inr (hlater n hlt)), ih hlt]
    · obtain ⟨hwf', hcovers'⟩ := scrollFirst_frame_kept hwf hcovers L
      obtain ⟨hshown, hvis'⟩ :=
        shown_of_framesOnly (m := m) (x := x) (y := y) (scrollFirst_framesOnly s L) L
      rw [scrollFirst_succ]
      exact scrollLayer_get_shown hwf' hcovers' (hvis'.2 hvis) (hshown.trans hv)

end ScrollFirst

/-- Settles O51: the composite is that of all layers, one after the other. -/
theorem scrollComposite : Obligations.ScrollComposite := by
  intro s htop hbottom _
  have hwf (m : Monitor) : (s.frame m).wf := by
    cases m
    exacts [htop, hbottom]
  refine ⟨scrollComp s, rfl, scrollComp_framesOnly s, fun m x y hcovers => ⟨?_, ?_⟩⟩
  · intro hvis L tc tl b htc htl hm hb hlater
    obtain ⟨hL, _⟩ := List.getElem?_eq_some_iff.1 htc
    exact scrollFirst_get_shown (hwf m) hcovers hvis (shownPixel_of_shownAt htc htl hm hb)
      (fun L' hlt => shownPixel_eq_none (hlater L' hlt)) hL
  · exact fun h => scrollFirst_get_kept (fun L => h.imp_right fun hnone => shownPixel_eq_none (hnone L)) _

end Sys2Proof.Proofs
end

section
/-!
PROOFS. The road pass of SEQ.FRAME and SEQ.COLLONLY (R322, R323): it is its named steps, the collision-only
pass writes no frame, and a second pass over what the first one left adds no bit.
-/

namespace Sys2Proof.Proofs

open Sys2Proof Sys2Proof.Machine

/-! ### Operations in a row -/

theorem runAll_append {a b : List Instr} {s t : State} (h : runAll a s = .next t) :
    runAll (a ++ b) s = runAll b t := by
  rw [runAll] at h
  rw [runAll, List.foldl_append, h, runAll]

theorem runAll_cons {i : Instr} {ops : List Instr} {s t : State} (h : exec i s = .next t) :
    runAll (i :: ops) s = runAll ops t := runAll_append (a := [i]) h

/-- A loop of one operation is the loop of its state change. -/
theorem runAll_map {δ : Type} {op : δ → Instr} {f : State → δ → State} {l : List δ}
    (h : ∀ d ∈ l, ∀ s, exec (op d) s = .next (f s d)) (s : State) :
    runAll (l.map op) s = .next (l.foldl f s) := by
  induction l generalizing s with
  | nil => rfl
  | cons d l ih =>
    rw [List.map_cons, runAll_cons (h d (List.mem_cons_self ..) s),
      ih fun e he => h e (List.mem_cons_of_mem _ he)]
    rfl

/-! ### The pass as its steps -/

theorem exec_seqCollOnly_eq (s : State) : exec .seqCollOnly s = .next (roadPass true s) := rfl

theorem exec_roadLine_ofNat (minimal : BitVec 1) {y : Nat} (hy : y < 256) (s : State) :
    exec (.roadLine minimal (BitVec.ofNat 8 y)) s = .next (roadLine (minimal = 1) y s) := by
  show Host.Outcome.next (roadLine (minimal = 1) (BitVec.ofNat 8 y).toNat s) = _
  rw [BitVec.toNat_ofNat, Nat.mod_eq_of_lt hy]

theorem roadPass_on_tile_board (minimal : Bool) {s : State} (h : s.cfg.roadBoard = false) :
    roadPass minimal s = s := if_neg (by simp [h])

theorem roadPass_on_road_board (minimal : Bool) {s : State} (h : s.cfg.roadBoard = true) :
    roadPass minimal s =
      (visibleLines s.cfg.road).foldl (fun s y => roadLine minimal y s) (roadParams s) := if_pos h

theorem visibleLines_eq_range' (c : RoadCfg) :
    visibleLines c = List.range' c.yFirst (c.yLast + 1 - c.yFirst) :=
  (List.range'_eq_map_range ..).symm

theorem runAll_roadSteps (minimal : BitVec 1) {s : State} (hlast : s.cfg.road.yLast < 256) :
    runAll (roadSteps minimal s.cfg) s = .next (roadPass (minimal = 1) s) := by
  unfold roadSteps
  cases hroad : s.cfg.roadBoard with
  | false => exact congrArg _ (roadPass_on_tile_board _ hroad).symm
  | true =>
    rw [roadPass_on_road_board _ hroad, ← visibleLines_eq_range', if_pos rfl,
      runAll_cons (t := roadParams s) rfl]
    refine runAll_map (fun y hy t => exec_roadLine_ofNat minimal ?_ t) _
    have hvisible := (mem_visibleLines _ y).1 hy
    omega

/-! ### The collision-only pass (R323) -/

theorem roadLine_minimal_framesKept (y : Nat) (s : State) :
    (roadLine true y s).frameTop = s.frameTop ∧ (roadLine true y s).frameBottom = s.frameBottom := by
  by_cases hvisible : LineVisible s.cfg y
  · rw [roadLine_minimal_eq hvisible]
    exact ⟨rfl, rfl⟩
  · rw [roadLine_of_not_visible _ s y hvisible]
    exact ⟨rfl, rfl⟩

theorem roadPass_minimal_framesKept (s : State) :
    (roadPass true s).frameTop = s.frameTop ∧ (roadPass true s).frameBottom = s.frameBottom := by
  unfold roadPass
  split
  · refine foldl_keeps (P := fun t : State => t.frameTop = s.frameTop ∧ t.frameBottom = s.frameBottom)
      _ _ (fun t y _ ⟨htop, hbottom⟩ => ?_) ?_
    · obtain ⟨htop', hbottom'⟩ := roadLine_minimal_framesKept y t
      exact ⟨htop'.trans htop, hbottom'.trans hbottom⟩
    · rw [roadParams_frame]
      exact ⟨rfl, rfl⟩
  · exact ⟨rfl, rfl⟩

/-- The working state of a scanline is as empty after the pass as before it (R44). -/
theorem roadPass_minimal_eq {s : State} (hidle : Idle s) : roadPass true s = { s with
    collision := (roadPass true s).collision
    sprparam := (roadPass true s).sprparam
    sprxmap := (roadPass true s).sprxmap } := by
  obtain ⟨hbuf, hdrawn⟩ := hidle
  obtain ⟨hbuf', hdrawn'⟩ := (roadPass_keeps true s).idle ⟨hbuf, hdrawn⟩
  obtain ⟨htop, hbottom⟩ := roadPass_minimal_framesKept s
  have hframe := roadPass_frame true s
  rwa [PassFrame, htop, hbottom, hbuf', hdrawn', ← hbuf, ← hdrawn] at hframe

/-- Settles O47: the pass is its steps, and a minimal ROAD.LINE writes the accumulator alone. -/
theorem seqCollOnly : Obligations.SeqCollOnly := fun s =>
  ⟨fun htile => congrArg _ (roadPass_on_tile_board true htile),
    fun hbuf hdrawn => ⟨_, exec_seqCollOnly_eq s, roadPass_minimal_eq ⟨hbuf, hdrawn⟩,
      (roadPass_keeps true s).gains⟩,
    fun hlast => ⟨_, exec_seqCollOnly_eq s, runAll_roadSteps 1 hlast⟩⟩

/-! ### A pass over what a pass has left (R330) -/

theorem lineCollision_of_sweepFrame {s t : State} (h : SweepFrame s t) (y : Nat) :
    lineCollision t y = lineCollision s y := by
  obtain ⟨hcfg, _⟩ := tables_of_sweepFrame h
  have hslot := drawSlot_of_sweepFrame y h
  have hreads : lineEntry t y = lineEntry s y ∧ lineOffRoad t y = lineOffRoad s y := by
    rw [h]
    exact ⟨rfl, rfl⟩
  obtain ⟨hentry, hoffroad⟩ := hreads
  funext px
  simp only [lineCollision, linePriority, lineSprite, roadGroupBuffer, hcfg, hslot, hentry, hoffroad]

/-- No scanline is under way, and the bits of scanline y stand in the accumulator. -/
structure LineGathered (s : State) (y : Nat) : Prop where
  idle : Idle s
  within : ∀ n < sweptColumns s.cfg.road,
    BitsWithin (lineCollision s y (s.cfg.road.xFirst + n)) s.collision

theorem lineCollision_within_gathered (s : State) (y : Nat) {k n : Nat} (hk : k < n) :
    BitsWithin (lineCollision s y (s.cfg.road.xFirst + k)) (gatheredCollision s y n) := by
  induction n with
  | zero => exact absurd hk (Nat.not_lt_zero k)
  | succ n ih =>
    rw [gatheredCollision_succ]
    obtain hlt | rfl := Nat.lt_succ_iff_lt_or_eq.1 hk
    · exact (ih hlt).trans (bitsWithin_or _ _)
    · rw [BitVec.or_comm]
      exact bitsWithin_or _ _

theorem LineGathered.gatheredCollision_eq {s : State} {y : Nat} (h : LineGathered s y) {n : Nat}
    (hn : n ≤ sweptColumns s.cfg.road) : gatheredCollision s y n = s.collision := by
  induction n with
  | zero => rfl
  | succ n ih => rw [gatheredCollision_succ, ih (by omega), BitVec.or_comm, h.within n hn]

section Lines

variable (minimal : Bool) {s t : State} {y : Nat}

theorem LineGathered.of_sweepFrame (h : LineGathered s y) (hframe : SweepFrame s t) (hidle : Idle t)
    (hgains : BitsWithin s.collision t.collision) : LineGathered t y := by
  obtain ⟨hcfg, _⟩ := tables_of_sweepFrame hframe
  refine ⟨hidle, ?_⟩
  rw [hcfg, lineCollision_of_sweepFrame hframe]
  exact fun n hn => (h.within n hn).trans hgains

theorem LineGathered.of_framesOnly (h : LineGathered s y) (hframes : FramesOnly s t) :
    LineGathered t y := by
  rw [hframes]
  exact h.of_sweepFrame rfl h.idle (BitsWithin.refl _)

theorem LineGathered.after_line (h : LineGathered s y) (y' : Nat) :
    LineGathered (roadLine minimal y' s) y :=
  h.of_sweepFrame (roadLine_frame minimal y' s) (roadLine_idle minimal y' h.idle)
    (roadLine_gains minimal y' s)

theorem roadLine_gathers (h : LineVisible s.cfg y) : LineGathered (roadLine minimal y s) y := by
  have hframe := roadLine_frame minimal y s
  obtain ⟨hcfg, _⟩ := tables_of_sweepFrame hframe
  refine ⟨?_, ?_⟩
  · rw [roadLine_of_visible minimal s y h]
    exact ⟨rfl, rfl⟩
  · rw [hcfg, lineCollision_of_sweepFrame hframe, roadLine_visible_collision minimal h]
    exact fun n hn => lineCollision_within_gathered s y hn

theorem LineGathered.roadLine_framesOnly (h : LineGathered s y) :
    FramesOnly s (roadLine minimal y s) := by
  by_cases hvisible : LineVisible s.cfg y
  · obtain ⟨hbuf, hdrawn⟩ := h.idle
    have hline := roadLine_visible_eq minimal hvisible
    rwa [h.gatheredCollision_eq le_rfl, ← hbuf, ← hdrawn] at hline
  · rw [roadLine_of_not_visible minimal s y hvisible]
    rfl

end Lines

/-- Every scanline swept has its bits in the accumulator at the end. -/
theorem lines_gathered (minimal : Bool) {s : State} {lines : List Nat}
    (h : ∀ y ∈ lines, LineVisible s.cfg y) :
    ∀ y ∈ lines, LineGathered (lines.foldl (fun s y => roadLine minimal y s) s) y := by
  induction lines using List.reverseRecOn with
  | nil => simp
  | append_singleton lines last ih =>
    intro y hy
    rw [List.foldl_concat]
    obtain hy | hy := List.mem_append.1 hy
    · exact (ih (fun z hz => h z (List.mem_append_left _ hz)) y hy).after_line minimal last
    · obtain rfl := List.mem_singleton.1 hy
      have hlines := SweepFrame.foldl lines s fun t z => roadLine_frame minimal z t
      obtain ⟨hcfg, _⟩ := tables_of_sweepFrame hlines
      exact roadLine_gathers minimal (by rw [hcfg]; exact h y (by simp))

/-- The road tables are those of the road sprite RAM, and every visible scanline has its bits in the
accumulator. -/
structure RoadSettled (s : State) : Prop where
  params : roadParams s = s
  lines : s.cfg.roadBoard = true → ∀ y ∈ visibleLines s.cfg.road, LineGathered s y

theorem roadParams_roadParams (s : State) : roadParams (roadParams s) = roadParams s := by
  cases hroad : s.cfg.roadBoard with
  | false => rw [roadParams_on_tile_board hroad, roadParams_on_tile_board hroad]
  | true =>
    rw [roadParams_on_road_board hroad]
    exact roadParams_on_road_board hroad

/-- ROAD.PARAMS reads nothing a sweep writes. -/
theorem roadParams_of_sweepFrame {s t : State} (h : SweepFrame s t) (hs : roadParams s = s) :
    roadParams t = t := by
  rw [h]
  refine Eq.trans ?_ (congrArg (fun u : State => { u with
    collision := t.collision
    sprbuf := t.sprbuf
    offroadDrawn := t.offroadDrawn
    frameTop := t.frameTop
    frameBottom := t.frameBottom }) hs)
  unfold roadParams
  split <;> rfl

theorem roadPass_settled (minimal : Bool) (s : State) : RoadSettled (roadPass minimal s) := by
  cases hroad : s.cfg.roadBoard with
  | false =>
    rw [roadPass_on_tile_board minimal hroad]
    exact ⟨roadParams_on_tile_board hroad, fun h => absurd h (by simp [hroad])⟩
  | true =>
    rw [roadPass_on_road_board minimal hroad]
    have hparams : (roadParams s).cfg = s.cfg := (roadParams_keeps s).cfg
    have hframe := SweepFrame.foldl (visibleLines s.cfg.road) (roadParams s)
      fun t y => roadLine_frame minimal y t
    obtain ⟨hcfg, _⟩ := tables_of_sweepFrame hframe
    refine ⟨roadParams_of_sweepFrame hframe (roadParams_roadParams s), fun _ => ?_⟩
    rw [hcfg, hparams]
    refine lines_gathered minimal fun y hy => ?_
    rw [hparams]
    exact ⟨hroad, (mem_visibleLines _ y).1 hy⟩

theorem RoadSettled.of_framesOnly {s t : State} (h : RoadSettled s) (hframes : FramesOnly s t) :
    RoadSettled t := by
  rw [hframes]
  exact ⟨roadParams_of_sweepFrame rfl h.params,
    fun hroad y hy => (h.lines hroad y hy).of_framesOnly rfl⟩

theorem RoadSettled.roadPass_framesOnly (minimal : Bool) {s : State} (h : RoadSettled s) :
    FramesOnly s (roadPass minimal s) := by
  cases hroad : s.cfg.roadBoard with
  | false =>
    rw [roadPass_on_tile_board minimal hroad]
    rfl
  | true =>
    rw [roadPass_on_road_board minimal hroad, h.params]
    refine foldl_keeps (P := FramesOnly s) _ s (fun t y hy ht => ht.trans ?_) rfl
    exact ((h.lines hroad y hy).of_framesOnly ht).roadLine_framesOnly minimal

end Sys2Proof.Proofs
end

section
/-!
PROOFS. SEQ.FRAME (R322): what it changes, that it is its named steps, and that a second frame finds every
layer clean and every collision bit gathered, so it writes the frames alone (R330).
-/

namespace Sys2Proof.Proofs

open Sys2Proof Sys2Proof.Machine

/-! ### Layers with nothing dirty (R213, R233) -/

/-- No tile-pair and no sprite cell of a layer is dirty. -/
structure LayersDrawn (s : State) : Prop where
  tiles : ∀ (L : Nat) (tc : TileCfg) (tl : TileLayer), s.cfg.tiles[L]? = some tc →
    s.tiles[L]? = some tl → ∀ k < tc.vramSize / 2, ¬PairDirty tl k
  spr0 : ∀ k < 16 * s.cfg.spr0.rows, ¬CellDirty s.spr0 k
  spr1 : ∀ k < 16 * s.cfg.spr1.rows, ¬CellDirty s.spr1 k

theorem renderLayer_no_pairDirty (s : State) (tc : TileCfg) (tl : TileLayer) {k : Nat}
    (hk : k < tc.vramSize / 2) : ¬PairDirty (renderLayer s tc tl) k := by
  have hbit (n : Nat) (hn : n < 2 * (tc.vramSize / 2)) :
      dirtyBit (renderLayer s tc tl).dirty n = false := by
    rw [renderLayer_eq_renderFirst, renderFirst_dirtyBit, decide_eq_false (by omega), Bool.and_false]
  simp [PairDirty, hbit (2 * k) (by omega), hbit (2 * k + 1) (by omega)]

theorem refreshLayer_no_cellDirty (s : State) (sc : SpriteCfg) (sl : SpriteLayer) {k : Nat}
    (hk : k < 16 * sc.rows) : ¬CellDirty (refreshLayer s sc sl) k := by
  rintro ⟨i, hi, hbit⟩
  rw [refreshLayer_eq_refreshFirst, refreshFirst_dirtyBit, decide_eq_false (by omega),
    Bool.and_false] at hbit
  exact Bool.false_ne_true hbit

theorem renderLayer_of_drawn (s : State) {tc : TileCfg} {tl : TileLayer}
    (h : ∀ k < tc.vramSize / 2, ¬PairDirty tl k) : renderLayer s tc tl = tl :=
  foldl_keeps (P := (· = tl)) _ tl (fun u k hk hu => by
    rw [hu]
    exact renderPair_of_clean s tc tl (h k (List.mem_range.1 hk))) rfl

theorem refreshLayer_of_drawn (s : State) {sc : SpriteCfg} {sl : SpriteLayer}
    (h : ∀ k < 16 * sc.rows, ¬CellDirty sl k) : refreshLayer s sc sl = sl :=
  foldl_keeps (P := (· = sl)) _ sl (fun u k hk hu => by
    rw [hu]
    exact refreshCell_of_clean s sc sl (h k (List.mem_range.1 hk))) rfl

/-! ### What the layer steps change -/

/-- Only dirty maps and bitmaps of layers differ between `s` and `t`. -/
def LayersOnly (s t : State) : Prop :=
  t = { s with
    tiles := t.tiles
    spr0 := { s.spr0 with dirty := t.spr0.dirty, bitmap := t.spr0.bitmap }
    spr1 := { s.spr1 with dirty := t.spr1.dirty, bitmap := t.spr1.bitmap } } ∧
  t.tiles.map TileLayer.vram = s.tiles.map TileLayer.vram

theorem LayersOnly.refl (s : State) : LayersOnly s s := ⟨rfl, rfl⟩

theorem LayersOnly.trans {s t u : State} (h : LayersOnly s t) (h' : LayersOnly t u) : LayersOnly s u := by
  obtain ⟨ht, hvram⟩ := h
  obtain ⟨hu, hvram'⟩ := h'
  exact ⟨by rw [hu, ht], hvram'.trans hvram⟩

theorem LayersOnly.cfg {s t : State} (h : LayersOnly s t) : t.cfg = s.cfg := by
  rw [h.1]

theorem markEverything_layersOnly (s : State) : LayersOnly s (markEverything s) :=
  ⟨rfl, by simp [markEverything, Function.comp_def]⟩

theorem tileRender_layersOnly (L : Nat) (s : State) : LayersOnly s (tileRender L s) := by
  cases hlayer : s.tile? L with
  | none =>
    rw [tileRender, hlayer]
    exact LayersOnly.refl s
  | some layer =>
    obtain ⟨tc, tl⟩ := layer
    obtain ⟨htc, htl⟩ := (tile?_eq_some s).1 hlayer
    rw [tileRender_of_layer htc htl]
    exact ⟨rfl, map_set_same htl (renderLayer_vram s tc tl)⟩

theorem renderTiles_layersOnly (s : State) (layers : List Nat) :
    LayersOnly s (layers.foldl (fun s L => tileRender L s) s) :=
  foldl_keeps (P := LayersOnly s) _ s (fun t L _ h => h.trans (tileRender_layersOnly L t))
    (LayersOnly.refl s)

theorem spriteRefresh_layersOnly (S : SpriteId) (s : State) : LayersOnly s (spriteRefresh S s) := by
  have hrefresh (sc : SpriteCfg) (sl : SpriteLayer) : refreshLayer s sc sl = { sl with
      dirty := (refreshLayer s sc sl).dirty, bitmap := (refreshLayer s sc sl).bitmap } := by
    rw [← refreshLayer_ram s sc sl]
  cases S
  · exact ⟨congrArg (s.setSprite .big0) (hrefresh s.cfg.spr0 s.spr0), rfl⟩
  · exact ⟨congrArg (s.setSprite .big1) (hrefresh s.cfg.spr1 s.spr1), rfl⟩

/-! ### All tile layers -/

/-- A layer after TILE.RENDER is the rendered one, or one that stood there. -/
theorem tileRender_layer {s : State} {L L' : Nat} {tc : TileCfg} {tl : TileLayer}
    (htc : s.cfg.tiles[L']? = some tc) (htl : (tileRender L s).tiles[L']? = some tl) :
    (L = L' ∧ ∃ old, tl = renderLayer s tc old) ∨ (L ≠ L' ∧ s.tiles[L']? = some tl) := by
  cases hlayer : s.tile? L with
  | none =>
    rw [tileRender, hlayer] at htl
    refine .inr ⟨?_, htl⟩
    rintro rfl
    rw [tile?_of_layer htc htl] at hlayer
    cases hlayer
  | some layer =>
    obtain ⟨tc', old⟩ := layer
    obtain ⟨htc', hold⟩ := (tile?_eq_some s).1 hlayer
    rw [tileRender_of_layer htc' hold] at htl
    by_cases hL : L = L'
    · subst hL
      obtain rfl := Option.some.inj (htc.symm.trans htc')
      rw [setTile_getElem?_self hold] at htl
      exact .inl ⟨rfl, old, (Option.some.inj htl).symm⟩
    · rw [State.setTile_tiles, List.getElem?_set_ne hL] at htl
      exact .inr ⟨hL, htl⟩

/-- The first n layers are drawn after their TILE.RENDER. -/
theorem renderFirstLayers_drawn (s : State) (n : Nat) {L : Nat} (hL : L < n) {tc : TileCfg}
    {tl : TileLayer} (htc : s.cfg.tiles[L]? = some tc)
    (htl : ((List.range n).foldl (fun s L => tileRender L s) s).tiles[L]? = some tl) :
    ∀ k < tc.vramSize / 2, ¬PairDirty tl k := by
  induction n with
  | zero => exact absurd hL (Nat.not_lt_zero L)
  | succ n ih =>
    rw [List.range_succ, List.foldl_concat] at htl
    obtain ⟨_, old, rfl⟩ | ⟨hne, hkept⟩ :=
      tileRender_layer (by rwa [(renderTiles_layersOnly s _).cfg]) htl
    · exact fun k => renderLayer_no_pairDirty _ tc old
    · exact ih (by omega) hkept

theorem renderAllTiles_drawn (s : State) {L : Nat} {tc : TileCfg} {tl : TileLayer}
    (htc : s.cfg.tiles[L]? = some tc) (htl : (renderAllTiles s).tiles[L]? = some tl) :
    ∀ k < tc.vramSize / 2, ¬PairDirty tl k := by
  obtain ⟨hL, _⟩ := List.getElem?_eq_some_iff.1 htc
  exact renderFirstLayers_drawn s _ hL htc htl

theorem renderAllTiles_of_drawn {s : State} (h : LayersDrawn s) : renderAllTiles s = s := by
  refine foldl_keeps (P := (· = s)) _ s (fun t L _ ht => ?_) rfl
  subst ht
  cases hlayer : t.tile? L with
  | none => rw [tileRender, hlayer]
  | some layer =>
    obtain ⟨htc, htl⟩ := (tile?_eq_some t).1 hlayer
    rw [tileRender_of_layer htc htl, renderLayer_of_drawn t (h.tiles L _ _ htc htl), setTile_self htl]

/-! ### The layers of a frame (R322) -/

/-- The state a frame starts from. -/
def frameStart (fullRefresh : Bool) (s : State) : State := if fullRefresh then markEverything s else s

/-- The state after the layer steps of a frame. -/
def drawLayers (fullRefresh : Bool) (s : State) : State :=
  spriteRefresh .big1 (spriteRefresh .big0 (renderAllTiles (frameStart fullRefresh s)))

theorem frameStart_layersOnly (fullRefresh : Bool) (s : State) :
    LayersOnly s (frameStart fullRefresh s) := by
  cases fullRefresh
  exacts [LayersOnly.refl s, markEverything_layersOnly s]

theorem drawLayers_layersOnly (fullRefresh : Bool) (s : State) :
    LayersOnly s (drawLayers fullRefresh s) :=
  (((frameStart_layersOnly fullRefresh s).trans (renderTiles_layersOnly _ _)).trans
    (spriteRefresh_layersOnly .big0 _)).trans (spriteRefresh_layersOnly .big1 _)

theorem drawLayers_drawn (fullRefresh : Bool) (s : State) : LayersDrawn (drawLayers fullRefresh s) where
  tiles _ _ _ htc htl := by
    rw [(drawLayers_layersOnly fullRefresh s).cfg] at htc
    exact renderAllTiles_drawn (frameStart fullRefresh s)
      (by rwa [(frameStart_layersOnly fullRefresh s).cfg]) htl
  spr0 _ hk := refreshLayer_no_cellDirty _ _ _ hk
  spr1 _ hk := refreshLayer_no_cellDirty _ _ _ hk

theorem drawLayers_of_drawn {s : State} (h : LayersDrawn s) : drawLayers false s = s := by
  have hspr0 : spriteRefresh .big0 s = s := congrArg (s.setSprite .big0) (refreshLayer_of_drawn s h.spr0)
  have hspr1 : spriteRefresh .big1 s = s := congrArg (s.setSprite .big1) (refreshLayer_of_drawn s h.spr1)
  rw [drawLayers, frameStart, if_neg Bool.false_ne_true, renderAllTiles_of_drawn h, hspr0, hspr1]

/-- Between its layer steps and its road pass a frame writes the frames alone. -/
theorem beforeRoad_framesOnly (fullRefresh : Bool) (s : State) :
    FramesOnly (drawLayers fullRefresh s) (beforeRoad fullRefresh s) :=
  ((scrollComp_framesOnly _).trans (composite0_framesOnly _)).trans (composite1_framesOnly _)

theorem passFrame_of_framesOnly {s t : State} (h : FramesOnly s t) : PassFrame s t := by
  rw [h]
  rfl

theorem drawFrame_pass (fullRefresh : Bool) (s : State) :
    PassFrame (drawLayers fullRefresh s) (drawFrame fullRefresh s) :=
  (passFrame_of_framesOnly (beforeRoad_framesOnly fullRefresh s)).trans (roadPass_frame false _)

theorem LayersDrawn.of_passFrame {s t : State} (h : LayersDrawn s) (hpass : PassFrame s t) :
    LayersDrawn t := by
  rw [hpass]
  exact ⟨h.tiles, h.spr0, h.spr1⟩

/-! ### A second frame (R330) -/

/-- Over drawn layers and a settled road a frame writes the frames alone. -/
theorem drawFrame_again {s : State} (hlayers : LayersDrawn s) (hroad : RoadSettled s) :
    FramesOnly s (drawFrame false s) := by
  have hbefore := beforeRoad_framesOnly false s
  rw [drawLayers_of_drawn hlayers] at hbefore
  exact hbefore.trans ((hroad.of_framesOnly hbefore).roadPass_framesOnly false)

theorem framePresent_eq_outside (s : State) : framePresent s = outside s.inputs
    (s.trace ++ [.framePresent (s.visiblePixels .top) (s.visiblePixels .bottom)]) s.clock s := rfl

theorem exec_seqFrame_zero (s : State) :
    exec (.seqFrame 0) s = .next (framePresent (drawFrame false s)) := rfl

/-- Settles O49: a frame leaves its layers drawn and its road settled, and the presentation between the two
lies outside the block. -/
theorem secondFrameRedrawsNothing : Obligations.SecondFrameRedrawsNothing := by
  intro s
  have hagain : FramesOnly (drawFrame false s) (drawFrame false (drawFrame false s)) :=
    drawFrame_again ((drawLayers_drawn false s).of_passFrame (drawFrame_pass false s))
      (roadPass_settled false _)
  refine ⟨_, _, exec_seqFrame_zero s, exec_seqFrame_zero _, ?_⟩
  rw [framePresent_eq_outside (drawFrame false s), drawFrame_ignores false]
  generalize drawFrame false (drawFrame false s) = u at hagain ⊢
  rw [hagain]
  rfl

/-! ### What a frame changes (R322) -/

theorem drawFrame_keeps (fullRefresh : Bool) (s : State) : Keeps s (drawFrame fullRefresh s) :=
  (keeps_of_videoFrame (beforeRoad_video fullRefresh s) (beforeRoad_shape fullRefresh s)).trans
    (roadPass_keeps false _)

/-- The working state of a scanline is as empty after a frame as before it (R44). -/
theorem drawFrame_eq (fullRefresh : Bool) {s : State} (hidle : Idle s) : drawFrame fullRefresh s = { s with
    tiles := (drawFrame fullRefresh s).tiles
    spr0 := { s.spr0 with
      dirty := (drawFrame fullRefresh s).spr0.dirty, bitmap := (drawFrame fullRefresh s).spr0.bitmap }
    spr1 := { s.spr1 with
      dirty := (drawFrame fullRefresh s).spr1.dirty, bitmap := (drawFrame fullRefresh s).spr1.bitmap }
    collision := (drawFrame fullRefresh s).collision
    sprparam := (drawFrame fullRefresh s).sprparam
    sprxmap := (drawFrame fullRefresh s).sprxmap
    frameTop := (drawFrame fullRefresh s).frameTop
    frameBottom := (drawFrame fullRefresh s).frameBottom } := by
  obtain ⟨hbuf', hdrawn'⟩ := (drawFrame_keeps fullRefresh s).idle hidle
  obtain ⟨hbuf, hdrawn⟩ := hidle
  obtain ⟨hlayers, _⟩ := drawLayers_layersOnly fullRefresh s
  have hpass := drawFrame_pass fullRefresh s
  rw [PassFrame, hbuf', hdrawn', ← hbuf, ← hdrawn, hlayers] at hpass
  rw [hpass]

theorem all_false_of_dirtyBit {d : List Bool} (h : ∀ n < d.length, dirtyBit d n = false) :
    ∀ b ∈ d, b = false := by
  intro b hb
  obtain ⟨n, hn, rfl⟩ := List.getElem_of_mem hb
  simpa [dirtyBit, hn] using h n hn

theorem clean_of_no_pairDirty {tc : TileCfg} {tl : TileLayer} (heven : tc.vramSize % 2 = 0)
    (hlen : tl.dirty.length = tc.vramSize) (h : ∀ k < tc.vramSize / 2, ¬PairDirty tl k) :
    ∀ b ∈ tl.dirty, b = false := by
  refine all_false_of_dirtyBit fun n hn => ?_
  have hpair := h (n / 2) (by omega)
  obtain hn | hn : n = 2 * (n / 2) ∨ n = 2 * (n / 2) + 1 := by omega
  · rw [hn]
    exact Bool.eq_false_of_not_eq_true fun hbit => hpair (.inl hbit)
  · rw [hn]
    exact Bool.eq_false_of_not_eq_true fun hbit => hpair (.inr hbit)

theorem clean_of_no_cellDirty {sc : SpriteCfg} {sl : SpriteLayer}
    (hlen : sl.dirty.length = spriteRamSize sc) (h : ∀ k < 16 * sc.rows, ¬CellDirty sl k) :
    ∀ b ∈ sl.dirty, b = false := by
  refine all_false_of_dirtyBit fun n hn => ?_
  rw [hlen, spriteRamSize] at hn
  have hcell := h (n / 4) (by omega)
  refine Bool.eq_false_of_not_eq_true fun hbit => hcell ⟨n % 4, by omega, ?_⟩
  rwa [Nat.div_add_mod]

theorem clean_of_drawn {s : State} (hsized : s.sized) (heven : ∀ tc ∈ s.cfg.tiles, tc.vramSize % 2 = 0)
    (h : LayersDrawn s) : s.clean := by
  obtain ⟨_, htiles, ⟨hspr0, _⟩, ⟨hspr1, _⟩, _⟩ := hsized
  refine ⟨fun tl htl => ?_, clean_of_no_cellDirty hspr0 h.spr0, clean_of_no_cellDirty hspr1 h.spr1⟩
  obtain ⟨L, hL⟩ := List.mem_iff_getElem?.1 htl
  obtain ⟨hlt, rfl⟩ := List.getElem?_eq_some_iff.1 hL
  have hlt' : L < s.cfg.tiles.length := htiles.length_eq ▸ hlt
  obtain ⟨hlen, _⟩ := htiles.get hlt hlt'
  exact clean_of_no_pairDirty (heven _ (List.getElem_mem hlt')) hlen
    (h.tiles L _ _ (List.getElem?_eq_getElem hlt') hL)

/-! ### A frame as its steps (R322) -/

theorem allDirty_eq_markEverything (s : State) : allDirty s = markEverything s := by
  simp only [allDirty, markEverything, markAll_eq_replicate]

theorem frameStart_eq (full : BitVec 1) (s : State) :
    (if full = 1 then allDirty s else s) = frameStart (full = 1) s := by
  simp only [frameStart, allDirty_eq_markEverything, decide_eq_true_eq]

theorem exec_tileRender_ofNat {L : Nat} (hL : L < 8) (s : State) :
    exec (.tileRender (BitVec.ofNat 3 L)) s = .next (tileRender L s) := by
  rw [exec_tileRender_eq, BitVec.toNat_ofNat, Nat.mod_eq_of_lt hL]

theorem runAll_frameSteps (fullRefresh : Bool) {s : State} (hlayers : s.cfg.tiles.length ≤ 8)
    (hlast : s.cfg.road.yLast < 256) :
    runAll (frameSteps s.cfg) (frameStart fullRefresh s) = .next (drawFrame fullRefresh s) := by
  have hstart : (frameStart fullRefresh s).cfg = s.cfg := (frameStart_layersOnly fullRefresh s).cfg
  have hbefore : (beforeRoad fullRefresh s).cfg = s.cfg :=
    (keeps_of_videoFrame (beforeRoad_video fullRefresh s) (beforeRoad_shape fullRefresh s)).cfg
  have htiles : runAll ((List.range s.cfg.tiles.length).map fun L => .tileRender (BitVec.ofNat 3 L))
      (frameStart fullRefresh s) = .next (renderAllTiles (frameStart fullRefresh s)) := by
    rw [renderAllTiles, hstart]
    refine runAll_map (fun L hL t => exec_tileRender_ofNat ?_ t) _
    have hlt := List.mem_range.1 hL
    omega
  have hlayersAndComposites :
      runAll [.sprRefresh 0, .sprRefresh 1, .seqScrollComp, .sprComposite0, .sprComposite1]
        (renderAllTiles (frameStart fullRefresh s)) = .next (beforeRoad fullRefresh s) := rfl
  have hroad := runAll_roadSteps 0 (s := beforeRoad fullRefresh s) (by rwa [hbefore])
  rw [hbefore] at hroad
  rw [frameSteps, List.append_assoc, runAll_append htiles, runAll_append hlayersAndComposites, hroad]
  rfl

/-- Settles O46: a frame is its layer steps, composites and road pass, and then the presentation of what the
frames hold. -/
theorem seqFrame : Obligations.SeqFrame := by
  intro s full
  refine ⟨fun hsized heven => ?_, fun hlayers hlast => ?_⟩
  · obtain ⟨_, _, hidle⟩ := (sized_iff s).1 hsized
    have hkeeps := drawFrame_keeps (full = 1) s
    have hpass := drawFrame_pass (full = 1) s
    have hdrawn := (drawLayers_drawn (full = 1) s).of_passFrame hpass
    have hclean : (drawFrame (full = 1) s).clean :=
      clean_of_drawn (hkeeps.sized hsized) (by rwa [hkeeps.cfg]) hdrawn
    have hvram : (drawFrame (full = 1) s).tiles.map TileLayer.vram = s.tiles.map TileLayer.vram := by
      rw [hpass]
      exact (drawLayers_layersOnly (full = 1) s).2
    refine ⟨_, exec_seqFrame_eq full s, ?_, hvram, hclean, hkeeps.gains⟩
    have hframe := drawFrame_eq (full = 1) hidle
    rw [framePresent_eq_outside]
    generalize drawFrame (full = 1) s = u at hframe ⊢
    rw [hframe]
    rfl
  · rw [frameStart_eq, runAll_frameSteps _ hlayers hlast]
    exact ⟨_, rfl, exec_seqFrame_eq full s⟩

end Sys2Proof.Proofs
end

section
/-!
PROOFS. No bus transaction changes a pixel (R375): the operations that draw are words of unit 0, and a word of
another unit reads, or writes registers, byte memories and dirty maps.
-/

namespace Sys2Proof.Proofs

open Sys2Proof Sys2Proof.Machine

/-! ### Pixels -/

/-- Every bitmap and both frames are as they were. -/
structure KeepsPixels (s t : State) : Prop where
  frameTop : t.frameTop = s.frameTop
  frameBottom : t.frameBottom = s.frameBottom
  tiles : t.tiles.map TileLayer.bitmap = s.tiles.map TileLayer.bitmap
  spr0 : t.spr0.bitmap = s.spr0.bitmap
  spr1 : t.spr1.bitmap = s.spr1.bitmap

theorem KeepsPixels.refl (s : State) : KeepsPixels s s := ⟨rfl, rfl, rfl, rfl, rfl⟩

theorem KeepsPixels.trans {s t u : State} (h : KeepsPixels s t) (h' : KeepsPixels t u) :
    KeepsPixels s u :=
  ⟨h'.frameTop.trans h.frameTop, h'.frameBottom.trans h.frameBottom, h'.tiles.trans h.tiles,
    h'.spr0.trans h.spr0, h'.spr1.trans h.spr1⟩

theorem keepsPixels_of_registersOnly {s t : State} (h : RegistersOnly s t) : KeepsPixels s t := by
  rw [h]
  exact ⟨rfl, rfl, rfl, rfl, rfl⟩

theorem keepsPixels_of_bankOnly {s t : State} (h : BankOnly s t) : KeepsPixels s t := by
  rw [h.frame]
  exact ⟨rfl, rfl, rfl, rfl, rfl⟩

theorem keepsPixels_of_answered {s t : State} (h : Answered s t) : KeepsPixels s t := by
  obtain ⟨_, v, ⟨asked, rfl, _⟩, rfl⟩ := h
  exact ⟨rfl, rfl, rfl, rfl, rfl⟩

/-! ### Writes of layers (R211, R218, R231) -/

section Writes

variable (s : State)

theorem vramWr_keepsPixels (L : BitVec 3) (n : BitVec 16) (d : Byte) :
    Yields (KeepsPixels s) (execVramWr L n d s) := by
  unfold execVramWr
  split
  · exact .next (KeepsPixels.refl s)
  · next tc tl hlayer =>
    obtain ⟨_, htl⟩ := (tile?_eq_some s).1 hlayer
    exact .ite (.next ⟨rfl, rfl, map_set_same htl rfl, rfl, rfl⟩) (.next (KeepsPixels.refl s))

theorem sprRamWr_keepsPixels (S : BitVec 1) (n : BitVec 15) (d : Byte) :
    Yields (KeepsPixels s) (execSprRamWr S n d s) := by
  refine .ite (.next ?_) (.next (KeepsPixels.refl s))
  cases spriteOf S <;> exact ⟨rfl, rfl, rfl, rfl, rfl⟩

/-- Marking a layer dirty leaves its bitmap. -/
theorem markMonitor_keepsPixels (m : Monitor) : KeepsPixels s (markMonitor s m) := by
  have hframe := markMonitor_frame s m
  have htiles : (markMonitor s m).tiles.map TileLayer.bitmap = s.tiles.map TileLayer.bitmap := by
    refine List.ext_getElem? fun L => ?_
    rw [List.getElem?_map, List.getElem?_map, markMonitor_tile, Option.map_map]
    congr 1
    funext tl
    simp only [Function.comp_apply]
    split
    · split <;> rfl
    · rfl
  refine ⟨?_, ?_, htiles, ?_, ?_⟩ <;> rw [hframe]

theorem palbankWr_keepsPixels (d : Byte) :
    KeepsPixels s (markToggled (bankToggled d s) { s with palbank := d }) := by
  have hmark (toggled : Bool) (m : Monitor) (t : State) : KeepsPixels t (markIf toggled m t) := by
    cases toggled
    exacts [KeepsPixels.refl t, markMonitor_keepsPixels t m]
  exact ((keepsPixels_of_registersOnly (t := { s with palbank := d }) rfl).trans
    (hmark _ .bottom _)).trans (hmark _ .top _)

end Writes

/-! ### Words of the other units (R101) -/

/-- The operations a word of a unit other than SEQ decodes to with `w` = 1. -/
inductive BusWrite : Instr → Prop
  | ppiA (c : BitVec 3) (d : Byte) : BusWrite (.ppiWrA c d)
  | ppiB (c : BitVec 3) (d : Byte) : BusWrite (.ppiWrB c d)
  | ppiC (c : BitVec 3) (d : Byte) : BusWrite (.ppiWrC c d)
  | ppiMode (c : BitVec 3) (ga : BitVec 2) (da dcu gb db dcl : BitVec 1) :
      BusWrite (.ppiWrMode c ga da dcu gb db dcl)
  | ppiBsr (c x n : BitVec 3) (b : BitVec 1) : BusWrite (.ppiWrBsr c x n b)
  | prot13 (d : Byte) : BusWrite (.protWr13 d)
  | prot (o : BitVec 4) (d : Byte) : BusWrite (.protWr o d)
  | sndLatch (i : BitVec 1) (d : Byte) : BusWrite (.sndLatchWr i d)
  | speechReset (level : BitVec 1) : BusWrite (.sndSpeechResetWr level)
  | speechStart (level : BitVec 1) : BusWrite (.sndSpeechStartWr level)
  | speechVcu (level : BitVec 1) : BusWrite (.sndSpeechVcuWr level)
  | speechData (d : Byte) : BusWrite (.sndSpeechDataWr d)
  | cpuReset (d : Byte) : BusWrite (.sndCpuResetWr d)
  | vram (L : BitVec 3) (n : BitVec 16) (d : Byte) : BusWrite (.vramWr L n d)
  | sprRam (S : BitVec 1) (n : BitVec 15) (d : Byte) : BusWrite (.sprRamWr S n d)
  | sprCtrl (S : BitVec 1) (r : BitVec 15) (d : Byte) : BusWrite (.sprCtrlWr S r d)
  | collClr : BusWrite .roadCollClr
  | roadReg (k : BitVec 3) (d : Byte) : BusWrite (.roadRegWr k d)
  | roadSpr (n : BitVec 12) (d : Byte) : BusWrite (.roadSprWr n d)
  | palbank (d : Byte) : BusWrite (.ctlPalbankWr d)
  | scroll (i d : Byte) : BusWrite (.ctlScrollWr i d)
  | nv (n : BitVec 16) (d : Byte) : BusWrite (.nvWr n d)
  | oor (unit : BitVec 4) : BusWrite (.busOor unit 1)

theorem decodeFields_busWrite {unit : BitVec 4} (hunit : unit ≠ 0) (inst : BitVec 3) (sel : BitVec 16)
    (data : Byte) : BusWrite (decodeFields unit 1 inst sel data) := by
  have hwrite : (1 : BitVec 1) ≠ 0 := by decide
  unfold decodeFields
  rw [if_neg hunit]
  split_ifs
  · simp only [decodePpi, if_neg hwrite]
    split_ifs
    exacts [.ppiA _ _, .ppiB _ _, .ppiC _ _, .ppiMode _ _ _ _ _ _ _, .ppiBsr _ _ _ _, .oor _]
  · simp only [decodeProt, if_neg hwrite]
    split_ifs
    exacts [.prot13 _, .prot _ _, .oor _]
  · simp only [decodeSnd, if_neg hwrite]
    split_ifs
    exacts [.sndLatch _ _, .speechReset _, .speechStart _, .speechVcu _, .speechData _, .cpuReset _,
      .oor _]
  · simp only [decodeVram, if_neg hwrite]
    exact .vram _ _ _
  · simp only [decodeSpr, if_neg hwrite]
    split_ifs
    exacts [.sprRam _ _ _, .sprCtrl _ _ _, .oor _]
  · simp only [decodeRoad, if_neg hwrite]
    split_ifs
    exacts [.collClr, .roadReg _ _, .roadSpr _ _, .oor _]
  · simp only [decodeCtl, if_neg hwrite]
    split_ifs
    exacts [.palbank _, .scroll _ _, .oor _]
  · simp only [decodeNv, if_neg hwrite]
    split_ifs
    exacts [.nv _ _, .oor _]
  · rw [decodeInp, if_neg fun h => hwrite h.2]
    exact .oor _
  · exact .oor _

theorem decode_bus {tw : TW} (h : unitOf tw ≠ 0) : ReadOp (decode tw) ∨ BusWrite (decode tw) := by
  obtain hw | hw : wOf tw = 0 ∨ wOf tw = 1 := by
    generalize wOf tw = w
    revert w
    decide
  · exact .inl (decode_read hw)
  · rw [decode, hw]
    exact .inr (decodeFields_busWrite h _ _ _)

/-- No bus write draws. -/
theorem busWrite_keepsPixels {i : Instr} (hi : BusWrite i) (s : State) :
    Yields (KeepsPixels s) (exec i s) := by
  have registers {t : State} (h : RegistersOnly s t) : Yields (KeepsPixels s) (.next t) :=
    .next (keepsPixels_of_registersOnly h)
  have ranged {p : Prop} [Decidable p] {t : State} (h : KeepsPixels s t) :
      Yields (KeepsPixels s) (if p then .next t else oorWrite s) := .ite (.next h) (registers rfl)
  have bank {r : Result} (h : Yields (BankOnly s) r) : Yields (KeepsPixels s) r :=
    h.mono fun _ => keepsPixels_of_bankOnly
  have line {t : State} (l : SpeechLine) (v : Byte) (h : RegistersOnly s t) :
      Yields (KeepsPixels s) (.next (speechLine t l v)) := registers (speechLine_registersOnly s h)
  cases hi with
  | ppiA c d => exact bank (writePort_bankOnly c .a d s)
  | ppiB c d => exact bank (writePort_bankOnly c .b d s)
  | ppiC c d => exact bank (writePort_bankOnly c .c d s)
  | ppiMode c ga da dcu gb db dcl => exact bank (ppiWrMode_bankOnly c ga da dcu gb db dcl s)
  | ppiBsr c x n b => exact bank (ppiWrBsr_bankOnly c x n b s)
  | prot13 d => exact .next ⟨rfl, rfl, rfl, rfl, rfl⟩
  | prot o d =>
    intro t h
    obtain rfl | ⟨v, rfl⟩ | ⟨a, rfl⟩ := protWriteAction_next s h
    · exact KeepsPixels.refl _
    · exact ⟨rfl, rfl, rfl, rfl, rfl⟩
    · obtain hwrite | hwrite := mainMemWrite_cases s a d <;> rw [hwrite] <;>
        exact ⟨rfl, rfl, rfl, rfl, rfl⟩
  | sndLatch i d => exact .ite (registers rfl) (registers rfl)
  | speechReset level => exact line _ _ rfl
  | speechStart level => exact line _ _ rfl
  | speechVcu level => exact line _ _ rfl
  | speechData d => exact line _ _ rfl
  | cpuReset d =>
    refine registers ?_
    rw [soundCpuReset_eq]
    rfl
  | vram L n d => exact vramWr_keepsPixels s L n d
  | sprRam S n d => exact sprRamWr_keepsPixels s S n d
  | sprCtrl S r d =>
    show Yields _ (execSprCtrlWr S r d s)
    unfold execSprCtrlWr
    split_ifs <;> exact registers rfl
  | collClr => exact .next ⟨rfl, rfl, rfl, rfl, rfl⟩
  | roadReg k d =>
    show Yields _ (execRoadRegWr k d s)
    unfold execRoadRegWr
    split_ifs <;> exact registers rfl
  | roadSpr n d => exact ranged ⟨rfl, rfl, rfl, rfl, rfl⟩
  | palbank d => exact .next (palbankWr_keepsPixels s d)
  | scroll i d => exact ranged ⟨rfl, rfl, rfl, rfl, rfl⟩
  | nv n d => exact ranged ⟨rfl, rfl, rfl, rfl, rfl⟩
  | oor unit => exact .next (KeepsPixels.refl s)

/-- Settles O58: a word of a unit other than SEQ is a read or a bus write, and neither draws. -/
theorem busTransactionsChangeNoPixel : Obligations.BusTransactionsChangeNoPixel := by
  intro s t tw hunit hexec
  have hkept : KeepsPixels s t := by
    obtain hread | hwrite := decode_bus hunit
    · obtain ⟨u, hu, hanswered⟩ := exec_answers hread s
      obtain rfl := Host.Outcome.next.inj (hu.symm.trans hexec)
      exact keepsPixels_of_answered hanswered
    · exact busWrite_keepsPixels hwrite s t hexec
  exact ⟨hkept.frameTop, hkept.frameBottom, hkept.tiles, hkept.spr0, hkept.spr1⟩

end Sys2Proof.Proofs
end
